-- ==== Sys2Proof/Word.lean ====
section
/-! DEFINITION. The word types of the GOST2-128 CORE (00_scope.md R9, R11, R12): bytes, 64-bit words, 128-bit blocks. -/

namespace Sys2Proof

/-- A byte: the unit of the hash buffers, the tables and the byte strings of R13. -/
abbrev Byte := BitVec 8

/-- A 64-bit register, command or subkey (R9, R11). Every value is unsigned (R12). -/
abbrev Word := BitVec 64

/-- A 128-bit register or cipher block: byte 0 is bits 127:120 (R67). -/
abbrev Block := BitVec 128

/-- The SubkeySchedule: 64 words of 64 bits (R9, R43). -/
abbrev Schedule := Vector Word 64

/-- The eight 256-entry byte tables CT[0..7][0..255] (R51). -/
abbrev CipherTables := Vector (Vector Byte 256) 8

end Sys2Proof
end

