-- ==== Sys2Proof/Syntax.lean ====
section
/-! DEFINITION. The commands of the CORE, one constructor per row of spec/opcode_table.json (30_encoding.md R84). -/

namespace Sys2Proof

/-- A CORE command. The only explicit operand is the 5-bit byte count N of the FN commands (R82). -/
inductive Instr where
  /-- NOP, R220. -/
  | nop
  /-- CLEAR, R221. -/
  | clear
  /-- KSH_INIT, R112. -/
  | kshInit
  /-- KSH_ABSORB N, R113. -/
  | kshAbsorb (n : BitVec 5)
  /-- KSH_FINAL, R114. -/
  | kshFinal
  /-- KSH_LOADKEY, R115. -/
  | kshLoadkey
  /-- KEY_ZERO, R116. -/
  | keyZero
  /-- BLK_ENC, R138. -/
  | blkEnc
  /-- BLK_DEC, R139. -/
  | blkDec
  /-- GF_MUL, R154. -/
  | gfMul
  /-- GH_SETH, R155. -/
  | ghSeth
  /-- GH_LDH, R156. -/
  | ghLdh
  /-- GH_CLR, R157. -/
  | ghClr
  /-- GH_UPD N, R158. -/
  | ghUpd (n : BitVec 5)
  /-- CBC_SETIV, R172. -/
  | cbcSetiv
  /-- CBC_ENC, R173. -/
  | cbcEnc
  /-- CBC_ENCF N, R174. -/
  | cbcEncf (n : BitVec 5)
  /-- CBC_DEC, R175. -/
  | cbcDec
  /-- CBC_DECF, R176. -/
  | cbcDecf
  /-- FMT_CBC, R177. -/
  | fmtCbc
  /-- GCM_INIT, R200. -/
  | gcmInit
  /-- GCM_ENC N, R201. -/
  | gcmEnc (n : BitVec 5)
  /-- GCM_DEC N, R202. -/
  | gcmDec (n : BitVec 5)
  /-- GCM_TAG, R203. -/
  | gcmTag
  /-- GCM_VERIFY, R204. -/
  | gcmVerify
  /-- FMT_GCM, R205. -/
  | fmtGcm
  /-- INC32, R207. -/
  | inc32
  deriving DecidableEq, Repr

end Sys2Proof
end

