-- ==== Sys2Proof/WellFormed.lean ====
section
/-! DEFINITION. Which commands are legal: the column 'legal N' of 30_encoding.md R84. -/

namespace Sys2Proof

/-- The count of the command is in the range R84 gives its opcode (R82, R86). -/
def Instr.legal : Instr → Bool
  | .kshAbsorb n => decide (n.toNat ≤ 16)
  | .ghUpd n => decide (1 ≤ n.toNat) && decide (n.toNat ≤ 16)
  | .cbcEncf n => decide (n.toNat ≤ 15)
  | .gcmEnc n => decide (1 ≤ n.toNat) && decide (n.toNat ≤ 16)
  | .gcmDec n => decide (1 ≤ n.toNat) && decide (n.toNat ≤ 16)
  | .nop => true
  | .clear => true
  | .kshInit => true
  | .kshFinal => true
  | .kshLoadkey => true
  | .keyZero => true
  | .blkEnc => true
  | .blkDec => true
  | .gfMul => true
  | .ghSeth => true
  | .ghLdh => true
  | .ghClr => true
  | .cbcSetiv => true
  | .cbcEnc => true
  | .cbcDec => true
  | .cbcDecf => true
  | .fmtCbc => true
  | .gcmInit => true
  | .gcmTag => true
  | .gcmVerify => true
  | .fmtGcm => true
  | .inc32 => true

/-- A well-formed command: the legal ones. -/
abbrev Instr.WellFormed (i : Instr) : Prop := i.legal = true

end Sys2Proof
end

