-- ==== Sys2Proof/Decode.lean ====
section
/-! DEFINITION. The decoder and the encoder of command words (30_encoding.md R80 to R89). Decoding reads no state (R88). -/

namespace Sys2Proof

/-- Why a 64-bit value is ILLEGAL (R85); every reason ends in the same error ILLEGAL_CMD (R233). -/
inductive IllegalReason where
  /-- w[63:13] ≠ 0 (R83). -/
  | reservedBits
  /-- The opcode is not in the table of R84. -/
  | unassignedOpcode
  /-- An F0 command with N ≠ 0 (R80). -/
  | countInF0
  /-- An FN command whose N is outside its legal range (R84). -/
  | countOutOfRange
  deriving DecidableEq, Repr

/-- What the decoder reads from a command value (R85). -/
inductive Decoded where
  | cmd (i : Instr)
  | illegal (why : IllegalReason)
  deriving DecidableEq, Repr

/-- OPC = w[7:0] (R81). -/
def opcField (w : Word) : BitVec 8 := w.extractLsb' 0 8

/-- N = w[12:8] (R82). -/
def countField (w : Word) : BitVec 5 := w.extractLsb' 8 5

/-- The reserved field w[63:13] (R83). -/
def reservedField (w : Word) : BitVec 51 := w.extractLsb' 13 51

/-- An F0 row of R84: N must be 0. -/
def decodeF0 (i : Instr) (n : BitVec 5) : Decoded :=
  if n = 0 then .cmd i else .illegal .countInF0

/-- An FN row of R84: N must be in the row's legal range. -/
def decodeFN (mk : BitVec 5 → Instr) (n : BitVec 5) : Decoded :=
  if (mk n).legal then .cmd (mk n) else .illegal .countOutOfRange

/-- The opcode map (R84), a row a line. -/
def decodeFields (opc : BitVec 8) (n : BitVec 5) : Decoded :=
  match opc with
  | 0x00#8 => decodeF0 .nop n
  | 0x01#8 => decodeF0 .clear n
  | 0x10#8 => decodeF0 .kshInit n
  | 0x11#8 => decodeFN .kshAbsorb n
  | 0x12#8 => decodeF0 .kshFinal n
  | 0x13#8 => decodeF0 .kshLoadkey n
  | 0x20#8 => decodeF0 .keyZero n
  | 0x30#8 => decodeF0 .blkEnc n
  | 0x31#8 => decodeF0 .blkDec n
  | 0x40#8 => decodeF0 .gfMul n
  | 0x41#8 => decodeF0 .ghSeth n
  | 0x42#8 => decodeF0 .ghLdh n
  | 0x43#8 => decodeF0 .ghClr n
  | 0x44#8 => decodeFN .ghUpd n
  | 0x50#8 => decodeF0 .cbcSetiv n
  | 0x51#8 => decodeF0 .cbcEnc n
  | 0x52#8 => decodeFN .cbcEncf n
  | 0x53#8 => decodeF0 .cbcDec n
  | 0x54#8 => decodeF0 .cbcDecf n
  | 0x55#8 => decodeF0 .fmtCbc n
  | 0x60#8 => decodeF0 .gcmInit n
  | 0x61#8 => decodeFN .gcmEnc n
  | 0x62#8 => decodeFN .gcmDec n
  | 0x63#8 => decodeF0 .gcmTag n
  | 0x64#8 => decodeF0 .gcmVerify n
  | 0x65#8 => decodeF0 .fmtGcm n
  | 0x66#8 => decodeF0 .inc32 n
  | _ => .illegal .unassignedOpcode

/-- Decoding, total on every 64-bit value (R85): the reserved bits first, then the opcode, then the count. -/
def decode (w : Word) : Decoded :=
  if reservedField w ≠ 0 then .illegal .reservedBits else decodeFields (opcField w) (countField w)

/-- The command value that an opcode-table row's bits stand for: the low nbits of w, every bit above them 0. A command is one 64-bit value (R80), so there are no further words. -/
def tableWord (nbits w : Nat) : Word := BitVec.ofNat 64 (w % 2 ^ nbits)

/-- The command the decoder reads from a table row's bits; none where the value is ILLEGAL. -/
def decodeTableWord (nbits w : Nat) : Option Instr :=
  match decode (tableWord nbits w) with
  | .cmd i => some i
  | .illegal _ => none

/-- The opcode of each command (the OPC column of R84). -/
def opcode : Instr → BitVec 8
  | .nop => 0x00#8
  | .clear => 0x01#8
  | .kshInit => 0x10#8
  | .kshAbsorb _ => 0x11#8
  | .kshFinal => 0x12#8
  | .kshLoadkey => 0x13#8
  | .keyZero => 0x20#8
  | .blkEnc => 0x30#8
  | .blkDec => 0x31#8
  | .gfMul => 0x40#8
  | .ghSeth => 0x41#8
  | .ghLdh => 0x42#8
  | .ghClr => 0x43#8
  | .ghUpd _ => 0x44#8
  | .cbcSetiv => 0x50#8
  | .cbcEnc => 0x51#8
  | .cbcEncf _ => 0x52#8
  | .cbcDec => 0x53#8
  | .cbcDecf => 0x54#8
  | .fmtCbc => 0x55#8
  | .gcmInit => 0x60#8
  | .gcmEnc _ => 0x61#8
  | .gcmDec _ => 0x62#8
  | .gcmTag => 0x63#8
  | .gcmVerify => 0x64#8
  | .fmtGcm => 0x65#8
  | .inc32 => 0x66#8

/-- The count field of each command: its N, or 0 in format F0 (R80). -/
def countOf : Instr → BitVec 5
  | .kshAbsorb n => n
  | .ghUpd n => n
  | .cbcEncf n => n
  | .gcmEnc n => n
  | .gcmDec n => n
  | .nop => 0
  | .clear => 0
  | .kshInit => 0
  | .kshFinal => 0
  | .kshLoadkey => 0
  | .keyZero => 0
  | .blkEnc => 0
  | .blkDec => 0
  | .gfMul => 0
  | .ghSeth => 0
  | .ghLdh => 0
  | .ghClr => 0
  | .cbcSetiv => 0
  | .cbcEnc => 0
  | .cbcDec => 0
  | .cbcDecf => 0
  | .fmtCbc => 0
  | .gcmInit => 0
  | .gcmTag => 0
  | .gcmVerify => 0
  | .fmtGcm => 0
  | .inc32 => 0

/-- The command word OPC | (N << 8) (R89). -/
def encode (i : Instr) : Word :=
  (opcode i).setWidth 64 ||| ((countOf i).setWidth 64 <<< 8)

end Sys2Proof
end

