-- ==== Sys2Proof/Config.lean ====
section
/-! DEFINITION. What one implementation of the CORE fixes: the parameters of 00_scope.md R10, and the free latency of R265. The opaque constants have no body, so nothing can be proved of their values. -/

namespace Sys2Proof

/-- The three 512-byte lanes of HBUF (R101). -/
inductive Lane where
  /-- The third lane, which no absorb step writes. -/
  | state
  /-- The raw-copy lane. -/
  | raw
  /-- The XOR lane. -/
  | xor
  deriving DecidableEq, Repr

/-- HASH_LANES: which lane lies at 0, at 512 and at 1024, a permutation (R101). -/
inductive HashLanes where
  | stateRawXor
  | stateXorRaw
  | rawStateXor
  | rawXorState
  | xorStateRaw
  | xorRawState
  deriving DecidableEq, Repr

/-- HASH_XOR_SRC: what the XOR lane combines with (R102, C3). -/
inductive XorSrc where
  | checksum
  | state
  deriving DecidableEq, Repr

namespace Config

/-- SBOX_PERMS, sixteen permutations of the 4-bit values: OPEN (D17, N1). Log entry 4. -/
opaque sboxPerms : Fin 16 → Equiv.Perm (BitVec 4)

/-- TABLE_ASSIGN as the sixteen indices hi_0, lo_0, …, hi_7, lo_7, each of 0..15 once: OPEN (D17, N2). Log entry 4. -/
opaque tableAssign : Equiv.Perm (Fin 16)

/-- HASH_SBOX, 256 bytes, not assumed a permutation: OPEN (D18, N3). Log entry 5. -/
opaque hashSbox : Byte → Byte

/-- CBC_DIGEST, from a byte string to 32 bytes, outside the CORE: OPEN (D19, N8). Log entry 7. -/
opaque cbcDigest : List Byte → Vector Byte 32

/-- The latency drawn for the k-th accepted command: any finite number of HOST accesses (D35, I9). Log entry 2. -/
opaque latency : Nat → Nat

/-- HASH_LANES at its decided default (0, 512, 1024) (D11). Log entry 6. -/
def hashLanes : HashLanes := .stateRawXor

/-- HASH_XOR_SRC at its decided default CHECKSUM (D12). Log entry 6. -/
def hashXorSrc : XorSrc := .checksum

end Config

end Sys2Proof
end

