-- ==== Sys2Proof/Machine/Tables.lean ====
section
/-! DEFINITION. The ROM of the CORE: the cipher tables built from the sixteen permutations (41_block_cipher.md R130), the hash table (R52) and the lane offsets (R101). -/

namespace Sys2Proof.Machine

/-- The byte offset of a lane in HBUF under a lane order (R45, R101). -/
def laneOffset : HashLanes → Lane → Nat
  | .stateRawXor, .state => 0
  | .stateRawXor, .raw => 512
  | .stateRawXor, .xor => 1024
  | .stateXorRaw, .state => 0
  | .stateXorRaw, .xor => 512
  | .stateXorRaw, .raw => 1024
  | .rawStateXor, .raw => 0
  | .rawStateXor, .state => 512
  | .rawStateXor, .xor => 1024
  | .rawXorState, .raw => 0
  | .rawXorState, .xor => 512
  | .rawXorState, .state => 1024
  | .xorStateRaw, .xor => 0
  | .xorStateRaw, .state => 512
  | .xorStateRaw, .raw => 1024
  | .xorRawState, .xor => 0
  | .xorRawState, .raw => 512
  | .xorRawState, .state => 1024

/-- One entry of a table that packs two 4-bit permutations into the nibbles of a byte (R130). -/
def packedEntry (hi lo : BitVec 4 → BitVec 4) (i : Byte) : Byte :=
  hi (i.extractLsb' 4 4) ++ lo (i.extractLsb' 0 4)

/-- One 256-entry table (R130). -/
def packedTable (hi lo : BitVec 4 → BitVec 4) : Vector Byte 256 :=
  Vector.ofFn fun i => packedEntry hi lo (BitVec.ofFin i)

/-- CT[j] for j in 0..7, from the permutations P and the pair (hi_j, lo_j) of each table (R130). -/
def cipherTables (p : Fin 16 → BitVec 4 → BitVec 4) (assign : Fin 8 → Fin 16 × Fin 16) : CipherTables :=
  Vector.ofFn fun j => packedTable (p (assign j).1) (p (assign j).2)

/-- The pair (hi_j, lo_j) of table j when the sixteen indices stand in the order hi_0, lo_0, …, hi_7, lo_7. -/
def assignPair (a : Fin 16 → Fin 16) (j : Fin 8) : Fin 16 × Fin 16 :=
  (a ⟨2 * j.val, by omega⟩, a ⟨2 * j.val + 1, by omega⟩)

/-- A byte table from a function on bytes. -/
def byteTable (f : Byte → Byte) : Vector Byte 256 := Vector.ofFn fun i => f (BitVec.ofFin i)

/-- Table lookup with a byte index 0..255 (R132, R140). -/
def lookup (t : Vector Byte 256) (i : Byte) : Byte := t[i.toNat]'i.isLt

end Sys2Proof.Machine
end

