-- ==== Sys2Proof/Machine/State.lean ====
section
/-! DEFINITION. The state of the CORE (10_state.md R20 to R58), the HOST's side of the register window, the reasons a step can stop, and the state after reset (R54). -/

namespace Sys2Proof.Machine

/-- STATUS.ERRCODE: the code the last command ended with (60_exceptions.md R232). The codes 0x06 to 0xFF are never produced, so no constructor stands for them. -/
inductive ErrCode where
  | ok
  | illegalCmd
  | hashSeq
  | badPadding
  | gcmSeq
  | formatSize
  deriving DecidableEq, Repr

/-- HPHASE (R48); the encoding 3 is never produced (R23). -/
inductive HPhase where
  | absorbing
  | final
  | consumed
  deriving DecidableEq, Repr

/-- GPHASE (R49): IDLE, OPEN, CLOSED, DONE. -/
inductive GPhase where
  | idle
  | opened
  | closed
  | done
  deriving DecidableEq, Repr

/-- The HashState (R18, R44 to R47): HCHK, HBUF, HCUR and HFB. -/
structure HashState where
  /-- HCHK[0..511] (R44). -/
  chk : Vector Byte 512
  /-- HBUF[0..1535] (R45). -/
  buf : Vector Byte 1536
  /-- HCUR, 10 bits (R46). -/
  cur : BitVec 10
  /-- HFB (R47). -/
  fb : Byte
  deriving DecidableEq, Repr

/-- The fresh hash state: everything 0 (R54, R112, D10). -/
def HashState.fresh : HashState :=
  { chk := Vector.replicate 512 0, buf := Vector.replicate 1536 0, cur := 0, fb := 0 }

/-- PENDING (R50): the command accepted and not yet performed. -/
structure Pending where
  valid : Bool
  word : Word
  deriving DecidableEq, Repr

/-- PENDING = (0, 0) (R50, R254). -/
def Pending.empty : Pending := { valid := false, word := 0 }

/-- The ROM and the fixed parameters of one CORE (R51, R52, R101, R102). No command and no reset changes them. -/
structure Rom where
  /-- CT[0..7][0..255] (R51). -/
  ct : CipherTables
  /-- HS[0..255] (R52). -/
  hs : Vector Byte 256
  /-- HASH_LANES (R101). -/
  lanes : HashLanes
  /-- HASH_XOR_SRC (R102). -/
  xorSrc : XorSrc
  deriving DecidableEq, Repr

/-- One operation of the HOST on the register window, or the outside reset event (30_encoding.md R90, R250). -/
inductive HostOp where
  /-- A read of `width` bytes at byte offset `off`. -/
  | rd (width off : Nat)
  /-- A write of `width` bytes at byte offset `off`. -/
  | wr (width off : Nat) (v : Word)
  /-- Read STATUS until BUSY reads 0 (R90). -/
  | wait
  /-- The reset event (R250). -/
  | reset
  deriving DecidableEq, Repr

/-- The whole machine: the CORE's state (R20) and, last, four fields of the model that stand for the HOST's side. -/
structure State where
  /-- CMD (R22). -/
  cmd : Word
  /-- STATUS.ERR (R25). -/
  err : Bool
  /-- STATUS.OVERRUN (R26). -/
  overrun : Bool
  /-- STATUS.AUTH_VALID (R27). -/
  authValid : Bool
  /-- STATUS.AUTH_OK (R27). -/
  authOk : Bool
  /-- STATUS.ERRCODE (R28). -/
  errcode : ErrCode
  /-- STATUS.OUTLEN, 5 bits (R32). -/
  outlen : BitVec 5
  /-- DIN0 (R34). -/
  din0 : Block
  /-- DIN1 (R34). -/
  din1 : Block
  /-- DOUT (R35). -/
  dout : Block
  /-- PREV (R36). -/
  prev : Block
  /-- H (R37). -/
  h : Block
  /-- J0 (R38). -/
  j0 : Block
  /-- CTR (R39). -/
  ctr : Block
  /-- ACC (R40). -/
  acc : Block
  /-- TAG (R41). -/
  tag : Block
  /-- LEN (R42). -/
  len : Word
  /-- KEY[0..63] (R43). -/
  key : Schedule
  /-- HCHK, HBUF, HCUR, HFB (R44 to R47). -/
  hash : HashState
  /-- HPHASE (R48). -/
  hphase : HPhase
  /-- GPHASE (R49). -/
  gphase : GPhase
  /-- PENDING (R50); STATUS.BUSY is its valid bit (R24). -/
  pending : Pending
  /-- CT, HS and the fixed parameters (R51, R52, R101, R102). -/
  rom : Rom
  /-- The model's own: the HOST's operations still to come, oldest first (log entry 1). -/
  script : List HostOp
  /-- The model's own: the values the HOST's reads returned, oldest first (log entry 1). -/
  received : List Word
  /-- The model's own: HOST accesses still to pass before the pending command's CORE step (log entry 2). -/
  delay : Nat
  /-- The model's own: how many latencies have been drawn (log entry 2). -/
  draws : Nat
  deriving DecidableEq, Repr

/-- The machine never stops with a fault: the CORE never traps and never stops (R230), so there is no reason to name. -/
inductive Fault where
  deriving DecidableEq, Repr

/-- Why a step is refused. The three HOST accesses are those that R64 tells a model to refuse; no CORE command is refused. -/
inductive Refusal where
  /-- Raised by an arm of exec whose command has no meaning yet (no arm uses it); safe, the model stops where the hardware goes on. -/
  | notModelled (mnemonic : String)
  /-- Raised by a HOST access whose width is not 64 bits (R64); safe, no step is taken. -/
  | accessWidth
  /-- Raised by a HOST access at an offset that is not a multiple of 8 (R64); safe, no step is taken. -/
  | accessMisaligned
  /-- Raised by a HOST access outside 0x000..0xFFF (R64); safe, no step is taken. -/
  | accessOutsideWindow
  deriving DecidableEq, Repr

/-- What a meaning and a step answer. -/
abbrev Result := Host.Outcome State Fault Refusal

/-- The ROM of the implementation that Config describes (R130, D11, D12, D17, D18). -/
def Rom.ofConfig : Rom :=
  { ct := cipherTables (fun m => Config.sboxPerms m) (assignPair Config.tableAssign)
    hs := byteTable Config.hashSbox
    lanes := Config.hashLanes
    xorSrc := Config.hashXorSrc }

/-- Every CORE element at its reset value (R54), over a given ROM, with no HOST operation to come. -/
def State.resetWith (rom : Rom) : State :=
  { cmd := 0, err := false, overrun := false, authValid := false, authOk := false, errcode := .ok, outlen := 0
    din0 := 0, din1 := 0, dout := 0, prev := 0, h := 0, j0 := 0, ctr := 0, acc := 0, tag := 0, len := 0
    key := Vector.replicate 64 0, hash := HashState.fresh, hphase := .absorbing, gphase := .idle
    pending := Pending.empty, rom := rom, script := [], received := [], delay := 0, draws := 0 }

/-- The machine right after reset (R54, R250, R251). -/
def State.reset : State := State.resetWith Rom.ofConfig

end Sys2Proof.Machine
end

