-- ==== Sys2Proof/Machine/Operands.lean ====
section
/-! DEFINITION. Operand forms: halves of a 128-bit register, big-endian byte strings, the partial-block mask (00_scope.md R12, R13; 20_memory.md R67; 30_encoding.md R82, R92). -/

namespace Sys2Proof.Machine

/-- The HI half of a 128-bit register: bits 127:64 (R14, R67). -/
def hi64 (v : Block) : Word := v.extractLsb' 64 64

/-- The LO half of a 128-bit register: bits 63:0 (R14, R67). -/
def lo64 (v : Block) : Word := v.extractLsb' 0 64

/-- X = X_HI ‖ X_LO (R14, R56). -/
def pair (hi lo : Word) : Block := hi ++ lo

/-- Writing one half leaves the other unchanged (R56). -/
def withHi (v : Block) (hi : Word) : Block := pair hi (lo64 v)

/-- Writing one half leaves the other unchanged (R56). -/
def withLo (v : Block) (lo : Word) : Block := pair (hi64 v) lo

/-- Byte i of a block; byte 0 is bits 127:120 (R67). -/
def blockByte (v : Block) (i : Nat) : Byte := v.extractLsb' (120 - 8 * i) 8

/-- bytes128(v): the 16 bytes of a block, most significant first (R13). -/
def bytes128 (v : Block) : List Byte := (List.range 16).map (blockByte v)

/-- bytes64(w): the 8 bytes of a word, most significant first (R13). -/
def bytes64 (w : Word) : List Byte := (List.range 8).map fun i => w.extractLsb' (56 - 8 * i) 8

/-- The big-endian value of a byte string, modulo 2^n (R13). -/
def beValue (n : Nat) (bs : List Byte) : BitVec n :=
  bs.foldl (fun acc b => (acc <<< 8) ||| b.setWidth n) 0

/-- BE64 of 8 bytes (R13). -/
def be64 (bs : List Byte) : Word := beValue 64 bs

/-- BE128 of 16 bytes (R13). -/
def be128 (bs : List Byte) : Block := beValue 128 bs

/-- zpad16(B) for |B| ≤ 16 (R13). -/
def zpad16 (bs : List Byte) : List Byte := bs ++ List.replicate (16 - bs.length) 0

/-- mask_N(v): keep bytes 0..N-1, zero the others (R13); N = 0 zeroes all, N ≥ 16 keeps all. -/
def maskN (n : Nat) (v : Block) : Block := v &&& (BitVec.allOnes 128 <<< (128 - 8 * n))

/-- rotl64(x, r) (R12). -/
def rotl64 (x : Word) (r : Nat) : Word := (x <<< r) ||| (x >>> (64 - r))

/-- The byte count N of an FN command as a natural number (R82). -/
def count (n : BitVec 5) : Nat := n.toNat

/-- OUTLEN's 5-bit field holding a byte count 0..16 (R23). -/
def outCount (n : Nat) : BitVec 5 := BitVec.ofNat 5 n

end Sys2Proof.Machine
end

