-- ==== Sys2Proof/Machine/Cipher.lean ====
section
/-! DEFINITION. The GOST2-128 block cipher (41_block_cipher.md R131 to R137): the round function and the two directions, for any tables and any schedule. -/

namespace Sys2Proof.Machine

/-- The round function f(x) (R132): eight table lookups by role (R131), then rotl64 by 11. -/
def roundF (ct : CipherTables) (x : Word) : Word :=
  rotl64
    (lookup ct[0] (x.extractLsb' 56 8) ++ lookup ct[1] (x.extractLsb' 48 8)
      ++ lookup ct[2] (x.extractLsb' 40 8) ++ lookup ct[3] (x.extractLsb' 32 8)
      ++ lookup ct[4] (x.extractLsb' 24 8) ++ lookup ct[5] (x.extractLsb' 16 8)
      ++ lookup ct[6] (x.extractLsb' 8 8) ++ lookup ct[7] (x.extractLsb' 0 8) : BitVec 64)
    11

/-- One round on the pair (a, b) with its two subkeys in the order they are used (R134, R135). -/
def cipherRound (ct : CipherTables) (ab : Word × Word) (k : Word × Word) : Word × Word :=
  let b := ab.2 ^^^ roundF ct (ab.1 + k.1)
  let a := ab.1 ^^^ roundF ct (b + k.2)
  (a, b)

/-- The subkey pairs of encryption: (K[2i], K[2i+1]) for i = 0..31 (R134). -/
def encKeys (k : Schedule) : List (Word × Word) :=
  (List.finRange 32).map fun i => (k[2 * i.val], k[2 * i.val + 1])

/-- The subkey pairs of decryption: (K[63-2i], K[62-2i]) for i = 0..31 (R135). -/
def decKeys (k : Schedule) : List (Word × Word) :=
  (List.finRange 32).map fun i => (k[63 - 2 * i.val], k[62 - 2 * i.val])

/-- The 32 rounds over a block as its word pair (R133), and the swapped output b ‖ a (R134, R135). -/
def runRounds (ct : CipherTables) (ks : List (Word × Word)) (v : Block) : Block :=
  let ab := ks.foldl (cipherRound ct) (hi64 v, lo64 v)
  pair ab.2 ab.1

/-- E(K, P) (R134). -/
@[irreducible] def encrypt (ct : CipherTables) (k : Schedule) (p : Block) : Block := runRounds ct (encKeys k) p

/-- D(K, C) (R135). -/
@[irreducible] def decrypt (ct : CipherTables) (k : Schedule) (c : Block) : Block := runRounds ct (decKeys k) c

end Sys2Proof.Machine
end

