-- ==== Sys2Proof/Machine/Flags.lean ====
section
/-! DEFINITION. The STATUS word (10_state.md R23 to R33): the codes of its fields and the 64-bit value a HOST read returns. There are no other flags (R53). -/

namespace Sys2Proof.Machine

/-- The ERRCODE byte (60_exceptions.md R232). -/
def errByte : ErrCode → Byte
  | .ok => 0x00
  | .illegalCmd => 0x01
  | .hashSeq => 0x02
  | .badPadding => 0x03
  | .gcmSeq => 0x04
  | .formatSize => 0x05

/-- The HPHASE field (R23, R29). -/
def hphaseBits : HPhase → BitVec 2
  | .absorbing => 0
  | .final => 1
  | .consumed => 2

/-- The GPHASE field (R23, R30). -/
def gphaseBits : GPhase → BitVec 2
  | .idle => 0
  | .opened => 1
  | .closed => 2
  | .done => 3

/-- STATUS.BUSY equals PENDING.valid (R24). -/
def busy (s : State) : Bool := s.pending.valid

/-- The STATUS word, fields from bit 63 down (R23); the reserved fields 63:37, 31:30 and 7:5 read 0 (R33). -/
def statusWord (s : State) : Word :=
  (0#27 ++ s.outlen ++ 0#2 ++ s.hash.cur ++ gphaseBits s.gphase ++ hphaseBits s.hphase ++ errByte s.errcode
    ++ 0#3 ++ BitVec.ofBool s.authOk ++ BitVec.ofBool s.authValid ++ BitVec.ofBool s.overrun
    ++ BitVec.ofBool s.err ++ BitVec.ofBool (busy s) : BitVec 64)

end Sys2Proof.Machine
end

