-- ==== Sys2Proof/Machine/Ops.lean ====
section
/-! DEFINITION. The shared operations on the state: how a command completes (10_state.md R25, R28), error completion, which is this machine's one exception (60_exceptions.md R231, R243), the result register (R32), erasure (R54, R221, R250) and the handshake (R22, R50, R254). -/

namespace Sys2Proof.Machine

/-- Success: ERRCODE <- 0x00; ERR is left as it is (R25, R28). -/
def State.complete (s : State) : State := { s with errcode := .ok }

/-- raise Error(code): ERRCODE <- code and ERR <- 1, nothing else (R231). There is no trap entry and so no return from one (R243). -/
def State.raiseError (s : State) (code : ErrCode) : State := { s with errcode := code, err := true }

/-- DOUT and OUTLEN are written together by every command that writes DOUT (R32, R35). -/
def State.writeDout (s : State) (v : Block) (n : BitVec 5) : State := { s with dout := v, outlen := n }

/-- PENDING <- (0, 0), hence BUSY <- 0, and the latency that belonged to it is over (R254). -/
def State.clearPending (s : State) : State := { s with pending := Pending.empty, delay := 0 }

/-- Every CORE element at its reset value but the ROM, which no reset changes (R54, R250); the HOST's side keeps its operations and what it has read. -/
def State.eraseCore (s : State) : State :=
  { State.resetWith s.rom with script := s.script, received := s.received, draws := s.draws }

/-- The reset event: a pending command is discarded without being performed (R250). -/
def State.resetEvent (s : State) : State := s.eraseCore

/-- CLEAR's effect: reset of every element but CMD (R221, R252). -/
def State.clearAll (s : State) : State := { s.eraseCore with cmd := s.cmd }

/-- A dropped HOST write: OVERRUN <- 1, nothing else (R26, R63, R238). -/
def State.noteOverrun (s : State) : State := { s with overrun := true }

/-- An accepted CMD write: CMD keeps w[31:0], PENDING holds all 64 bits, and a latency is drawn for its step (R22, R63, R254). -/
def State.acceptCommand (s : State) (w : Word) : State :=
  { s with
    cmd := (w.extractLsb' 0 32).setWidth 64
    pending := { valid := true, word := w }
    delay := Config.latency s.draws
    draws := s.draws + 1 }

end Sys2Proof.Machine
end

