-- ==== Sys2Proof/Machine/BlockCommands.lean ====
section
/-! DEFINITION. The block cipher commands (41_block_cipher.md R138, R139). -/

namespace Sys2Proof.Machine

/-- BLK_ENC (R138). -/
def execBlkEnc (s : State) : Result :=
  .next (s.writeDout (encrypt s.rom.ct s.key s.din0) 16).complete

/-- BLK_DEC (R139). -/
def execBlkDec (s : State) : Result :=
  .next (s.writeDout (decrypt s.rom.ct s.key s.din0) 16).complete

end Sys2Proof.Machine
end

