-- ==== Sys2Proof/Machine/CbcCommands.lean ====
section
/-! DEFINITION. The CBC commands (43_cbc.md R165, R166, R172 to R177). -/

namespace Sys2Proof.Machine

/-- The padded final block of a message whose last block holds the given 0..15 bytes: p = 16 - N bytes of value p are appended (R165, R174). -/
def padFinal (bs : List Byte) : List Byte :=
  bs ++ List.replicate (16 - bs.length) (BitVec.ofNat 8 (16 - bs.length))

/-- The pad byte p = Q[15] of a recovered final block (R166, R176). -/
def padLength (q : Block) : Nat := (blockByte q 15).toNat

/-- Padding validity of a recovered final block (R166, R176, R235). -/
def padValid (q : Block) : Bool :=
  decide (1 ≤ padLength q) && decide (padLength q ≤ 16)
    && (List.range 16).all fun j => decide (j < 16 - padLength q) || blockByte q j == blockByte q 15

/-- CBC_SETIV (R172). -/
def execCbcSetiv (s : State) : Result := .next { s with prev := s.din0 }.complete

/-- CBC_ENC (R173). -/
def execCbcEnc (s : State) : Result :=
  let c := encrypt s.rom.ct s.key (s.din0 ^^^ s.prev)
  .next ({ s with prev := c }.writeDout c 16).complete

/-- CBC_ENCF N (R174): bytes N..15 of DIN0 are ignored. -/
def execCbcEncf (n : BitVec 5) (s : State) : Result :=
  if (Instr.cbcEncf n).legal = false then .next (s.raiseError .illegalCmd)
  else
    let c := encrypt s.rom.ct s.key (be128 (padFinal ((bytes128 s.din0).take (count n))) ^^^ s.prev)
    .next ({ s with prev := c }.writeDout c 16).complete

/-- CBC_DEC (R175): PREV takes the ciphertext. -/
def execCbcDec (s : State) : Result :=
  .next ({ s with prev := s.din0 }.writeDout (decrypt s.rom.ct s.key s.din0 ^^^ s.prev) 16).complete

/-- CBC_DECF (R176): on bad padding the block is withheld and PREV keeps its value. -/
def execCbcDecf (s : State) : Result :=
  let q := decrypt s.rom.ct s.key s.din0 ^^^ s.prev
  .next
    (if padValid q then
      ({ s with prev := s.din0 }.writeDout (maskN (16 - padLength q) q) (outCount (16 - padLength q))).complete
    else (s.writeDout 0 0).raiseError .badPadding)

/-- The CBC file-size check on s = DIN0_LO (R177, R237). -/
def cbcSizeBad (size : Word) : Bool :=
  decide (size < 48) || size == 48 || (size - 48) % 16 != 0

/-- FMT_CBC (R177). -/
def execFmtCbc (s : State) : Result :=
  if cbcSizeBad (lo64 s.din0) then .next (s.raiseError .formatSize)
  else .next (s.writeDout ((lo64 s.din0 - 48).setWidth 128) 16).complete

end Sys2Proof.Machine
end

