-- ==== Sys2Proof/Machine/Control.lean ====
section
/-! DEFINITION. The control commands (45_control.md R220, R221). -/

namespace Sys2Proof.Machine

/-- NOP (R220). -/
def execNop (s : State) : Result := .next s.complete

/-- CLEAR (R221, R252). -/
def execClear (s : State) : Result := .next s.clearAll

end Sys2Proof.Machine
end

