-- ==== Sys2Proof/Machine/Gf128.lean ====
section
/-! DEFINITION. GF(2^128) multiplication and GHASH (42_gf128_ghash.md R150 to R152), the counter increment and the GCM blocks built from them (44_gcm.md R190, R192, R194, R198). -/

namespace Sys2Proof.Machine

/-- The reduction constant: top 8 bits 0xE1, 120 zero bits (R150). -/
def gfReduction : Block := 0xE1#128 <<< 120

/-- Y shifted right by one bit, reduced if the bit shifted out was 1 (R150). -/
def gfShift (v : Block) : Block :=
  if v.getLsbD 0 then (v >>> 1) ^^^ gfReduction else v >>> 1

/-- The loop of R150: n iterations from accumulator z, current Y v and remaining X x. -/
def gfLoop : Nat → Block → Block → Block → Block
  | 0, z, _, _ => z
  | n + 1, z, v, x => gfLoop n (if x.getLsbD 127 then z ^^^ v else z) (gfShift v) (x <<< 1)

/-- gfmul(X, Y): 128 iterations from accumulator 0 (R150, D31). -/
@[irreducible] def gfmul (x y : Block) : Block := gfLoop 128 0 y x

/-- ghash(A, H, B) (R151). -/
def ghash (a h b : Block) : Block := gfmul (a ^^^ b) h

/-- inc32(V): only the low 32 bits, modulo 2^32 (R190). -/
def incLow32 (v : Block) : Block := v.extractLsb' 32 96 ++ (v.extractLsb' 0 32 + 1#32)

/-- J0 from H and the 16-byte IV, the accumulator starting at 0 (R192, D45). -/
def j0Of (h iv : Block) : Block := ghash (ghash 0 h iv) h 128#128

/-- The lengths block for a byte count: AAD bit length 0, then 8·len mod 2^64 (R194, R42). -/
def lengthsBlock (len : Word) : Block := (8#64 * len).setWidth 128

/-- The full-length comparison of two tags: all 16 byte pairs, no early exit (R198, R204). -/
def ctEqual (x y : Block) : Bool :=
  (List.range 16).foldl (fun eq j => eq && (blockByte x j == blockByte y j)) true

end Sys2Proof.Machine
end

