-- ==== Sys2Proof/Machine/GcmCommands.lean ====
section
/-! DEFINITION. The GCM commands (44_gcm.md R200 to R207). -/

namespace Sys2Proof.Machine

/-- The phase after a data block of n bytes: a partial block closes the message (R49, R201, R202). -/
def phaseAfter (n : Nat) (g : GPhase) : GPhase := if n < 16 then .closed else g

/-- What GCM_ENC and GCM_DEC share once the ciphertext block is known: GHASH of it, the counter, the byte count, the phase (R201, R202). -/
def State.gcmAdvance (s : State) (c : Block) (n : BitVec 5) : State :=
  { s with
    acc := ghash s.acc s.h c
    ctr := incLow32 s.ctr
    len := s.len + n.setWidth 64
    gphase := phaseAfter (count n) s.gphase }

/-- GCM_INIT (R200): legal in every phase; DOUT is not written. -/
def execGcmInit (s : State) : Result :=
  let h := encrypt s.rom.ct s.key 0
  let j0 := j0Of h s.din0
  .next
    { s with
      h := h, j0 := j0, ctr := incLow32 j0, acc := 0, len := 0, tag := 0
      authValid := false, authOk := false, gphase := .opened }.complete

/-- GCM_ENC N (R201). -/
def execGcmEnc (n : BitVec 5) (s : State) : Result :=
  if (Instr.gcmEnc n).legal = false then .next (s.raiseError .illegalCmd)
  else if s.gphase ≠ .opened then .next (s.raiseError .gcmSeq)
  else
    let c := maskN (count n) (s.din0 ^^^ encrypt s.rom.ct s.key s.ctr)
    .next ((s.gcmAdvance c n).writeDout c n).complete

/-- GCM_DEC N (R202): the ciphertext, not the plaintext, enters ACC. -/
def execGcmDec (n : BitVec 5) (s : State) : Result :=
  if (Instr.gcmDec n).legal = false then .next (s.raiseError .illegalCmd)
  else if s.gphase ≠ .opened then .next (s.raiseError .gcmSeq)
  else
    let c := maskN (count n) s.din0
    let p := maskN (count n) (c ^^^ encrypt s.rom.ct s.key s.ctr)
    .next ((s.gcmAdvance c n).writeDout p n).complete

/-- GCM_TAG (R203): in OPEN or CLOSED only. -/
def execGcmTag (s : State) : Result :=
  if s.gphase ≠ .opened ∧ s.gphase ≠ .closed then .next (s.raiseError .gcmSeq)
  else
    let a := ghash s.acc s.h (lengthsBlock s.len)
    let t := encrypt s.rom.ct s.key s.j0 ^^^ a
    .next ({ s with acc := a, tag := t, gphase := .done }.writeDout t 16).complete

/-- GCM_VERIFY (R204): in DONE only; a mismatch is not an error (R240). -/
def execGcmVerify (s : State) : Result :=
  if s.gphase ≠ .done then .next (s.raiseError .gcmSeq)
  else .next { s with authOk := ctEqual s.din0 s.tag, authValid := true }.complete

/-- FMT_GCM (R205). -/
def execFmtGcm (s : State) : Result :=
  if lo64 s.din0 < 32 then .next (s.raiseError .formatSize)
  else .next (s.writeDout ((lo64 s.din0 - 32).setWidth 128) 16).complete

/-- INC32 (R207): CTR is not touched. -/
def execInc32 (s : State) : Result := .next (s.writeDout (incLow32 s.din0) 16).complete

end Sys2Proof.Machine
end

