-- ==== Sys2Proof/Machine/GhashCommands.lean ====
section
/-! DEFINITION. The field and GHASH commands (42_gf128_ghash.md R154 to R158). None of them consults GPHASE (R259). -/

namespace Sys2Proof.Machine

/-- GF_MUL (R154). -/
def execGfMul (s : State) : Result := .next (s.writeDout (gfmul s.din0 s.din1) 16).complete

/-- GH_SETH (R155). -/
def execGhSeth (s : State) : Result := .next { s with h := encrypt s.rom.ct s.key 0 }.complete

/-- GH_LDH (R156). -/
def execGhLdh (s : State) : Result := .next { s with h := s.din0 }.complete

/-- GH_CLR (R157). -/
def execGhClr (s : State) : Result := .next { s with acc := 0 }.complete

/-- GH_UPD N (R158): bytes N..15 of DIN0 count as zero. -/
def execGhUpd (n : BitVec 5) (s : State) : Result :=
  if (Instr.ghUpd n).legal = false then .next (s.raiseError .illegalCmd)
  else .next { s with acc := ghash s.acc s.h (maskN (count n) s.din0) }.complete

end Sys2Proof.Machine
end

