-- ==== Sys2Proof/Machine/Hash.lean ====
section
/-! DEFINITION. The KeyScheduleHash compressor (40_keyschedule_hash.md R100 to R111): absorb, compress, finalize and the subkey schedule, for any ROM. -/

namespace Sys2Proof.Machine

/-- Byte i of an array; 0 outside it, which no reachable state reads (log entry 9). -/
def byteAt {n : Nat} (v : Vector Byte n) (i : Nat) : Byte := v[i]?.getD 0

/-- The array with byte i written; unchanged outside it, which no reachable state writes (log entry 9). -/
def putByte {n : Nat} (v : Vector Byte n) (i : Nat) (b : Byte) : Vector Byte n := v.setIfInBounds i b

/-- One pass over the bytes in ascending order: each byte becomes itself ⊕ HS[t], and t becomes that byte (R104). -/
def foldPass (hs : Vector Byte 256) : Byte → List Byte → Byte × List Byte
  | t, [] => (t, [])
  | t, x :: xs =>
    let y := x ^^^ lookup hs t
    let r := foldPass hs y xs
    (r.1, y :: r.2)

/-- A pass keeps the number of bytes. -/
theorem foldPass_length (hs : Vector Byte 256) (t : Byte) (xs : List Byte) :
    (foldPass hs t xs).2.length = xs.length := by
  induction xs generalizing t with
  | nil => rfl
  | cons x xs ih => simp [foldPass, ih]

/-- Rounds r, r+1, …, r+n-1: a whole-buffer pass, then t advances by the round index modulo 256 (R104). -/
def compressRounds (hs : Vector Byte 256) : Nat → Nat → Byte → List Byte → List Byte
  | 0, _, _, xs => xs
  | n + 1, r, t, xs =>
    let p := foldPass hs t xs
    compressRounds hs n (r + 1) (p.1 + BitVec.ofNat 8 r) p.2

/-- The rounds keep the number of bytes. -/
theorem compressRounds_length (hs : Vector Byte 256) (n r : Nat) (t : Byte) (xs : List Byte) :
    (compressRounds hs n r t xs).length = xs.length := by
  induction n generalizing r t xs with
  | zero => rfl
  | succ n ih => simp [compressRounds, ih, foldPass_length]

/-- The buffer after a compression pass: 514 rounds from t = 0 and round index 0 (R104, D13). Irreducible, so that no unification runs the 514 rounds; proofs unfold it by name. -/
@[irreducible] def compressBuf (hs : Vector Byte 256) (v : Vector Byte 1536) : Vector Byte 1536 :=
  ⟨(compressRounds hs 514 0 0 v.toList).toArray, by simp [compressRounds_length]⟩

/-- compress(): folds the buffer and sets HCUR to 0; HCHK and HFB are not touched (R104, R105). -/
def compress (rom : Rom) (st : HashState) : HashState :=
  { st with buf := compressBuf rom.hs st.buf, cur := 0 }

/-- The byte the XOR lane combines with at position p (R102). -/
def xorSource (rom : Rom) (st : HashState) (p : Nat) : Byte :=
  match rom.xorSrc with
  | .checksum => byteAt st.chk p
  | .state => byteAt st.buf (laneOffset rom.lanes .state + p)

/-- The four writes and the cursor advance of absorbing one byte, before any compression (R102). -/
def absorbWrite (rom : Rom) (st : HashState) (b : Byte) : HashState :=
  let p := st.cur.toNat
  let buf1 := putByte st.buf (laneOffset rom.lanes .raw + p) b
  let buf2 := putByte buf1 (laneOffset rom.lanes .xor + p) (b ^^^ xorSource rom st p)
  let c := byteAt st.chk p ^^^ lookup rom.hs (b ^^^ st.fb)
  { chk := putByte st.chk p c, buf := buf2, cur := st.cur + 1, fb := c }

/-- absorb_byte(b): the writes, and a compression when the window fills (R102, R103). -/
def absorbByte (rom : Rom) (st : HashState) (b : Byte) : HashState :=
  let st' := absorbWrite rom st b
  if st'.cur = 512 then compress rom st' else st'

/-- absorb(B): the bytes in order (R106). -/
def absorb (rom : Rom) (st : HashState) (bs : List Byte) : HashState := bs.foldl (absorbByte rom) st

/-- The padding of finalize: n = 512 - HCUR bytes of value n mod 256 (R107). -/
def padBytes (st : HashState) : List Byte :=
  List.replicate (512 - st.cur.toNat) (BitVec.ofNat 8 (512 - st.cur.toNat))

/-- Finalize, step 1 (R107). -/
def finalizePad (rom : Rom) (st : HashState) : HashState := absorb rom st (padBytes st)

/-- Finalize, step 2: absorb a snapshot of the checksum array (R108). -/
def finalizeChecksum (rom : Rom) (st : HashState) : HashState := absorb rom st st.chk.toList

/-- Finalize: the two steps in order; the digest is then in HBUF[0..512) (R107 to R109). -/
def finalize (rom : Rom) (st : HashState) : HashState := finalizeChecksum rom (finalizePad rom st)

/-- The digest: the first 512 bytes of the buffer, whatever the lane order (R45, R109). -/
def digest (st : HashState) : List Byte := st.buf.toList.take 512

/-- ksh(pw): the digest of a byte string from the fresh state (R110). -/
def ksh (rom : Rom) (pw : List Byte) : List Byte := digest (finalize rom (absorb rom HashState.fresh pw))

/-- schedule(d)[i] = BE64(d[8i .. 8i+8)) (R111). -/
def scheduleOf (d : List Byte) : Schedule := Vector.ofFn fun i => be64 ((d.drop (8 * i.val)).take 8)

end Sys2Proof.Machine
end

