-- ==== Sys2Proof/Machine/KeySchedule.lean ====
section
/-! DEFINITION. The hash and key commands (40_keyschedule_hash.md R112 to R116). -/

namespace Sys2Proof.Machine

/-- KSH_INIT (R112): legal in every phase; KEY is not changed. -/
def execKshInit (s : State) : Result :=
  .next { s with hash := HashState.fresh, hphase := .absorbing }.complete

/-- KSH_ABSORB N (R113): absorbs bytes 0..N-1 of DIN0, in phase ABSORBING only. -/
def execKshAbsorb (n : BitVec 5) (s : State) : Result :=
  if (Instr.kshAbsorb n).legal = false then .next (s.raiseError .illegalCmd)
  else if s.hphase ≠ .absorbing then .next (s.raiseError .hashSeq)
  else .next { s with hash := absorb s.rom s.hash ((bytes128 s.din0).take (count n)) }.complete

/-- KSH_FINAL (R114): finalize steps 1 and 2, in phase ABSORBING only. -/
def execKshFinal (s : State) : Result :=
  if s.hphase ≠ .absorbing then .next (s.raiseError .hashSeq)
  else .next { s with hash := finalize s.rom s.hash, hphase := .final }.complete

/-- KSH_LOADKEY (R115): installs the schedule and erases the hash state, in phase FINAL only. -/
def execKshLoadkey (s : State) : Result :=
  if s.hphase ≠ .final then .next (s.raiseError .hashSeq)
  else
    .next
      { s with key := scheduleOf (digest s.hash), hash := HashState.fresh, hphase := .consumed }.complete

/-- KEY_ZERO (R116). -/
def execKeyZero (s : State) : Result :=
  .next { s with key := Vector.replicate 64 0 }.complete

end Sys2Proof.Machine
end

