-- ==== Sys2Proof/Machine/Dispatch.lean ====
section
/-! DEFINITION. exec: one arm per command, each one call of its meaning. -/

namespace Sys2Proof.Machine

def exec (i : Instr) (s : State) : Host.Outcome State Fault Refusal :=
  match i with
  | .nop => Sys2Proof.Machine.execNop s
  | .clear => Sys2Proof.Machine.execClear s
  | .kshInit => Sys2Proof.Machine.execKshInit s
  | .kshAbsorb n => Sys2Proof.Machine.execKshAbsorb n s
  | .kshFinal => Sys2Proof.Machine.execKshFinal s
  | .kshLoadkey => Sys2Proof.Machine.execKshLoadkey s
  | .keyZero => Sys2Proof.Machine.execKeyZero s
  | .blkEnc => Sys2Proof.Machine.execBlkEnc s
  | .blkDec => Sys2Proof.Machine.execBlkDec s
  | .gfMul => Sys2Proof.Machine.execGfMul s
  | .ghSeth => Sys2Proof.Machine.execGhSeth s
  | .ghLdh => Sys2Proof.Machine.execGhLdh s
  | .ghClr => Sys2Proof.Machine.execGhClr s
  | .ghUpd n => Sys2Proof.Machine.execGhUpd n s
  | .cbcSetiv => Sys2Proof.Machine.execCbcSetiv s
  | .cbcEnc => Sys2Proof.Machine.execCbcEnc s
  | .cbcEncf n => Sys2Proof.Machine.execCbcEncf n s
  | .cbcDec => Sys2Proof.Machine.execCbcDec s
  | .cbcDecf => Sys2Proof.Machine.execCbcDecf s
  | .fmtCbc => Sys2Proof.Machine.execFmtCbc s
  | .gcmInit => Sys2Proof.Machine.execGcmInit s
  | .gcmEnc n => Sys2Proof.Machine.execGcmEnc n s
  | .gcmDec n => Sys2Proof.Machine.execGcmDec n s
  | .gcmTag => Sys2Proof.Machine.execGcmTag s
  | .gcmVerify => Sys2Proof.Machine.execGcmVerify s
  | .fmtGcm => Sys2Proof.Machine.execFmtGcm s
  | .inc32 => Sys2Proof.Machine.execInc32 s

end Sys2Proof.Machine
end

