-- ==== Sys2Proof/Machine/Window.lean ====
section
/-! DEFINITION. The HOST's register window (20_memory.md R60 to R66): the register map, reads, writes and the accesses that R64 tells a model to refuse. -/

namespace Sys2Proof.Machine

/-- The registers of the window by name (R61). -/
inductive WinReg where
  | cmd
  | status
  | din0Hi
  | din0Lo
  | din1Hi
  | din1Lo
  | doutHi
  | doutLo
  | prevHi
  | prevLo
  | hHi
  | hLo
  | j0Hi
  | j0Lo
  | ctrHi
  | ctrLo
  | accHi
  | accLo
  | tagHi
  | tagLo
  | len
  | key (i : Fin 64)
  | reserved
  deriving DecidableEq, Repr

/-- The register at a byte offset of the window (R61); the offsets without a register are reserved (R65). -/
def regAt (off : Nat) : WinReg :=
  match off with
  | 0x000 => .cmd
  | 0x008 => .status
  | 0x010 => .din0Hi
  | 0x018 => .din0Lo
  | 0x020 => .din1Hi
  | 0x028 => .din1Lo
  | 0x030 => .doutHi
  | 0x038 => .doutLo
  | 0x040 => .prevHi
  | 0x048 => .prevLo
  | 0x050 => .hHi
  | 0x058 => .hLo
  | 0x060 => .j0Hi
  | 0x068 => .j0Lo
  | 0x070 => .ctrHi
  | 0x078 => .ctrLo
  | 0x080 => .accHi
  | 0x088 => .accLo
  | 0x090 => .tagHi
  | 0x098 => .tagLo
  | 0x0A0 => .len
  | off => if hk : 0x100 ≤ off ∧ off < 0x300 then .key ⟨(off - 0x100) / 8, by omega⟩ else .reserved

/-- The byte offset of a register (R61); the reserved offsets are represented by the first of them. -/
def offsetOf : WinReg → Nat
  | .cmd => 0x000
  | .status => 0x008
  | .din0Hi => 0x010
  | .din0Lo => 0x018
  | .din1Hi => 0x020
  | .din1Lo => 0x028
  | .doutHi => 0x030
  | .doutLo => 0x038
  | .prevHi => 0x040
  | .prevLo => 0x048
  | .hHi => 0x050
  | .hLo => 0x058
  | .j0Hi => 0x060
  | .j0Lo => 0x068
  | .ctrHi => 0x070
  | .ctrLo => 0x078
  | .accHi => 0x080
  | .accLo => 0x088
  | .tagHi => 0x090
  | .tagLo => 0x098
  | .len => 0x0A0
  | .key i => 0x100 + 8 * i.val
  | .reserved => 0x0A8

/-- Why an access is not defined by the spec, if it is not: width, then alignment, then the window (R64). -/
def accessProblem (width off : Nat) : Option Refusal :=
  if width ≠ 8 then some .accessWidth
  else if off % 8 ≠ 0 then some .accessMisaligned
  else if 0x1000 ≤ off then some .accessOutsideWindow
  else none

/-- The value a read of a register returns: 0 for KEY and the reserved offsets (R62, R65, R66). -/
def readReg (s : State) : WinReg → Word
  | .cmd => s.cmd
  | .status => statusWord s
  | .din0Hi => hi64 s.din0
  | .din0Lo => lo64 s.din0
  | .din1Hi => hi64 s.din1
  | .din1Lo => lo64 s.din1
  | .doutHi => hi64 s.dout
  | .doutLo => lo64 s.dout
  | .prevHi => hi64 s.prev
  | .prevLo => lo64 s.prev
  | .hHi => hi64 s.h
  | .hLo => lo64 s.h
  | .j0Hi => hi64 s.j0
  | .j0Lo => lo64 s.j0
  | .ctrHi => hi64 s.ctr
  | .ctrLo => lo64 s.ctr
  | .accHi => hi64 s.acc
  | .accLo => lo64 s.acc
  | .tagHi => hi64 s.tag
  | .tagLo => lo64 s.tag
  | .len => s.len
  | .key _ => 0
  | .reserved => 0

/-- HostRead(off) (R62). -/
def hostRead (s : State) (off : Nat) : Word := readReg s (regAt off)

/-- The registers whose writes are dropped while BUSY = 1: CMD, DIN0, DIN1 and KEY (R63, R255). -/
def guarded : WinReg → Bool
  | .cmd => true
  | .din0Hi => true
  | .din0Lo => true
  | .din1Hi => true
  | .din1Lo => true
  | .key _ => true
  | _ => false

/-- A write that is not dropped; read-only registers and reserved offsets ignore it (R63, R65, R66). -/
def writeReg (s : State) (v : Word) : WinReg → State
  | .cmd => s.acceptCommand v
  | .din0Hi => { s with din0 := withHi s.din0 v }
  | .din0Lo => { s with din0 := withLo s.din0 v }
  | .din1Hi => { s with din1 := withHi s.din1 v }
  | .din1Lo => { s with din1 := withLo s.din1 v }
  | .key i => { s with key := s.key.set i.val v }
  | _ => s

/-- HostWrite(off, v): a guarded write while BUSY = 1 is dropped and sets OVERRUN (R63). -/
def hostWrite (s : State) (off : Nat) (v : Word) : State :=
  let r := regAt off
  if guarded r && busy s then s.noteOverrun else writeReg s v r

end Sys2Proof.Machine
end

