-- ==== Sys2Proof/Machine/Handshake.lean ====
section
/-! DEFINITION. The two agents' steps: the CORE step (70_reset_and_hazards.md R254) and one HOST operation (20_memory.md R62 to R66, 30_encoding.md R90), and which of them moves next. -/

namespace Sys2Proof.Machine

/-- The end of a CORE step: the command's outcome with PENDING <- (0, 0) and BUSY <- 0 (R254). -/
def finishCommand : Result → Result
  | .next t => .next t.clearPending
  | .fault e => .fault e
  | .refused r => .refused r

/-- The CORE step: decode PENDING.word, perform the command or raise ILLEGAL_CMD, clear PENDING (R85, R233, R254). -/
def coreStep (s : State) : Result :=
  match decode s.pending.word with
  | .cmd i => finishCommand (exec i s)
  | .illegal _ => finishCommand (.next (s.raiseError .illegalCmd))

/-- One HOST access has passed (R254, R265). -/
def State.tick (s : State) : State := { s with delay := s.delay - 1 }

/-- The HOST's operation is over: it leaves the script. -/
def State.popScript (s : State) : State := { s with script := s.script.tail }

/-- The HOST receives the value of a read (R62). -/
def State.receive (s : State) (v : Word) : State := { s with received := s.received ++ [v] }

/-- BUSY as a read of STATUS shows it: bit 0 (R23, R90). -/
def polledBusy (s : State) : Bool := (hostRead s 0x008).getLsbD 0

/-- One HOST operation: a read, a write, one poll of `wait`, or the reset event (R62, R63, R64, R90, R250). -/
def hostOp (s : State) : HostOp → Result
  | .rd width off =>
    match accessProblem width off with
    | some r => .refused r
    | none => .next (s.receive (hostRead s off)).tick.popScript
  | .wr width off v =>
    match accessProblem width off with
    | some r => .refused r
    | none => .next (hostWrite s.tick off v).popScript
  | .wait => if polledBusy s then .next s.tick else .next s.tick.popScript
  | .reset => .next s.resetEvent.popScript

/-- The HOST's next operation; with none left, nothing happens (R8). -/
def hostStep (s : State) : Result :=
  match s.script with
  | [] => .next s
  | op :: _ => hostOp s op

/-- The CORE moves next: a command is pending and its latency is over, or the HOST has no access left to issue (R254, R265). -/
def coreMoves (s : State) : Bool := s.pending.valid && (decide (s.delay = 0) || s.script.isEmpty)

/-- One step of the machine: the CORE's or the HOST's, never both (R72). -/
def machineStep (s : State) : Result := if coreMoves s then coreStep s else hostStep s

end Sys2Proof.Machine
end

