-- ==== Sys2Proof/Machine/Step.lean ====
section
/-! DEFINITION. step, and where a command word is put so that the next step performs it (log entry 3). -/

namespace Sys2Proof.Machine

/-- One step of the machine (00_scope.md R7, R254, R72). -/
def step (s : State) : Host.Outcome State Fault Refusal := machineStep s

/-- The command word of a table row in PENDING with its latency over: the next step is the CORE step that performs it (R254). -/
def State.withFetchWord (s : State) (nbits w : Nat) : State :=
  { s with pending := { valid := true, word := tableWord nbits w }, delay := 0 }

end Sys2Proof.Machine
end

