-- ==== Sys2Proof/Machine/Schemes.lean ====
section
/-! DEFINITION. The whole-message scheme functions that a HOST composes from the commands (43_cbc.md R165 to R170; 44_gcm.md R191 to R199). They are pure; the CBC digest is the external function of Config (D19). -/

namespace Sys2Proof.Machine

/-- The consecutive 16-byte slices of a byte string, the last possibly shorter; none for the empty string (R91, R196). The first argument bounds the number of slices. -/
def slices16 : Nat → List Byte → List (List Byte)
  | 0, _ => []
  | fuel + 1, bs => if bs.isEmpty then [] else bs.take 16 :: slices16 fuel (bs.drop 16)

/-- The slices of a byte string. -/
def blocksOf (bs : List Byte) : List (List Byte) := slices16 bs.length bs

/-- The block a slice of at most 16 bytes stands for: zero-padded (R13, R152). -/
def blockOf (slice : List Byte) : Block := be128 (zpad16 slice)

/-- The whole 16-byte blocks of a byte string, leaving out a last shorter slice. -/
def fullBlocks (bs : List Byte) : List Block := ((blocksOf bs).filter fun b => b.length == 16).map blockOf

/-- The last |P| mod 16 bytes of a byte string (R178). -/
def lastBytes (bs : List Byte) : List Byte := bs.drop (16 * (bs.length / 16))

/-- The byte string of a list of blocks, in order. -/
def bytesOfBlocks (bs : List Block) : List Byte := bs.flatMap bytes128

/-- pkcs7(P) (R165). -/
def pkcs7 (p : List Byte) : List Byte :=
  p ++ List.replicate (16 - p.length % 16) (BitVec.ofNat 8 (16 - p.length % 16))

/-- The CBC digest of a byte string, 32 bytes (R170, D19). -/
def cbcDigest (c : List Byte) : List Byte := (Config.cbcDigest c).toList

/-- The ciphertext blocks of a list of plaintext blocks, chained from a previous block (R167). -/
def cbcChain (ct : CipherTables) (k : Schedule) : Block → List Block → List Block
  | _, [] => []
  | prev, q :: qs =>
    let c := encrypt ct k (q ^^^ prev)
    c :: cbcChain ct k c qs

/-- The recovered plaintext blocks of a list of ciphertext blocks (R168). -/
def cbcUnchain (ct : CipherTables) (k : Schedule) : Block → List Block → List Block
  | _, [] => []
  | prev, c :: cs => (decrypt ct k c ^^^ prev) :: cbcUnchain ct k c cs

/-- The ciphertext blocks of a message (R167). -/
def cbcCipherBlocks (ct : CipherTables) (k : Schedule) (iv : Block) (p : List Byte) : List Block :=
  cbcChain ct k iv (fullBlocks (pkcs7 p))

/-- CbcEncrypt(K, IV, P) (R167): IV ‖ C ‖ CBC_DIGEST(C). -/
def cbcEncrypt (ct : CipherTables) (k : Schedule) (iv : Block) (p : List Byte) : List Byte :=
  let c := bytesOfBlocks (cbcCipherBlocks ct k iv p)
  bytes128 iv ++ c ++ cbcDigest c

/-- The result of a whole-message decryption: a format error with the plaintext already emitted, or the plaintext with the authentication outcome (R168, R169, R197, R199). -/
inductive Decrypted where
  | formatError (emitted : List Byte)
  | ok (plaintext : List Byte) (authenticated : Bool)
  deriving DecidableEq, Repr

/-- CbcDecrypt(K, F) (R168): a digest mismatch is not an error; bad padding in the final block is, after the earlier blocks were emitted. -/
def cbcDecrypt (ct : CipherTables) (k : Schedule) (f : List Byte) : Decrypted :=
  if f.length < 48 then .formatError []
  else if f.length - 48 = 0 ∨ (f.length - 48) % 16 ≠ 0 then .formatError []
  else
    let c := (f.drop 16).take (f.length - 48)
    let q := cbcUnchain ct k (be128 (f.take 16)) (fullBlocks c)
    let emitted := bytesOfBlocks q.dropLast
    let final := q.getLastD 0
    if padValid final then
      .ok (emitted ++ (bytes128 final).take (16 - padLength final)) (cbcDigest c == f.drop (f.length - 32))
    else .formatError emitted

/-- The GHASH subkey H (R191). -/
def gcmH (ct : CipherTables) (k : Schedule) : Block := encrypt ct k 0

/-- The counter-mode output for a list of slices from a counter block: each slice XORed with its keystream, only the valid bytes (R193, R196, R197). -/
def ctrApply (ct : CipherTables) (k : Schedule) : Block → List (List Byte) → List (List Byte)
  | _, [] => []
  | cb, b :: bs =>
    (bytes128 (blockOf b ^^^ encrypt ct k cb)).take b.length :: ctrApply ct k (incLow32 cb) bs

/-- The GHASH of a list of ciphertext slices, each zero-padded, from an accumulator (R152, R196). -/
def ghashSlices (h : Block) (a : Block) (cs : List (List Byte)) : Block :=
  cs.foldl (fun acc c => ghash acc h (blockOf c)) a

/-- The tag of a ciphertext (R194, R195). -/
def gcmTagOf (ct : CipherTables) (k : Schedule) (iv : Block) (c : List Byte) : Block :=
  let h := gcmH ct k
  encrypt ct k (j0Of h iv) ^^^ ghash (ghashSlices h 0 (blocksOf c)) h (lengthsBlock (BitVec.ofNat 64 c.length))

/-- The ciphertext of a plaintext, or the plaintext of a ciphertext: the keystream is the same (R193). -/
def gcmCrypt (ct : CipherTables) (k : Schedule) (iv : Block) (p : List Byte) : List Byte :=
  (ctrApply ct k (incLow32 (j0Of (gcmH ct k) iv)) (blocksOf p)).flatten

/-- GcmEncrypt(K, IV, P) (R196): IV ‖ C ‖ tag. -/
def gcmEncrypt (ct : CipherTables) (k : Schedule) (iv : Block) (p : List Byte) : List Byte :=
  let c := gcmCrypt ct k iv p
  bytes128 iv ++ c ++ bytes128 (gcmTagOf ct k iv c)

/-- GcmDecrypt(K, F) (R197): an authentication failure is not an error. -/
def gcmDecrypt (ct : CipherTables) (k : Schedule) (f : List Byte) : Decrypted :=
  if f.length < 32 then .formatError []
  else
    let iv := be128 (f.take 16)
    let c := (f.drop 16).take (f.length - 32)
    .ok (gcmCrypt ct k iv c) (ctEqual (be128 (f.drop (f.length - 16))) (gcmTagOf ct k iv c))

end Sys2Proof.Machine
end

