-- ==== Sys2Proof/Machine/HostProgram.lean ====
section
/-! DEFINITION. HOST programs: the syntax of 30_encoding.md R90, the pseudo-instructions of R91, and the command sequences of 40_keyschedule_hash.md R118, 43_cbc.md R178 and 44_gcm.md R210, as lists of HOST operations. -/

namespace Sys2Proof.Machine

/-- The 128-bit registers of the window as HI/LO pairs (R61, R67). -/
inductive PairReg where
  | din0
  | din1
  | dout
  | prev
  | h
  | j0
  | ctr
  | acc
  | tag
  deriving DecidableEq, Repr

/-- The HI register of a pair (R61). -/
def PairReg.hi : PairReg → WinReg
  | .din0 => .din0Hi
  | .din1 => .din1Hi
  | .dout => .doutHi
  | .prev => .prevHi
  | .h => .hHi
  | .j0 => .j0Hi
  | .ctr => .ctrHi
  | .acc => .accHi
  | .tag => .tagHi

/-- The LO register of a pair (R61). -/
def PairReg.lo : PairReg → WinReg
  | .din0 => .din0Lo
  | .din1 => .din1Lo
  | .dout => .doutLo
  | .prev => .prevLo
  | .h => .hLo
  | .j0 => .j0Lo
  | .ctr => .ctrLo
  | .acc => .accLo
  | .tag => .tagLo

/-- `rd REG` (R90). -/
def rdReg (r : WinReg) : HostOp := .rd 8 (offsetOf r)

/-- `wr REG, imm64` (R90). -/
def wrReg (r : WinReg) (v : Word) : HostOp := .wr 8 (offsetOf r) v

/-- `cmd MNEMONIC [N]` (R90). -/
def cmdOp (i : Instr) : HostOp := wrReg .cmd (encode i)

/-- A bare mnemonic: `cmd` then `wait` (R91). -/
def runCmd (i : Instr) : List HostOp := [cmdOp i, .wait]

/-- `wr128 X, imm128` (R91). -/
def wr128 (x : PairReg) (v : Block) : List HostOp := [wrReg x.hi (hi64 v), wrReg x.lo (lo64 v)]

/-- `rd128 X` (R91). -/
def rd128 (x : PairReg) : List HostOp := [rdReg x.hi, rdReg x.lo]

/-- `wrkey k0, ..., k63` (R91). -/
def wrkey (k : Schedule) : List HostOp := (List.finRange 64).map fun i => wrReg (.key i) k[i]

/-- A command with its operand block in DIN0. -/
def runWith (v : Block) (i : Instr) : List HostOp := wr128 .din0 v ++ runCmd i

/-- The count field of a slice length (R82). -/
def sliceCount (slice : List Byte) : BitVec 5 := BitVec.ofNat 5 slice.length

/-- `absorb B` (R91). -/
def absorbOps (bs : List Byte) : List HostOp :=
  (blocksOf bs).flatMap fun sl => runWith (blockOf sl) (.kshAbsorb (sliceCount sl))

/-- KSH_INIT; absorb pw; KSH_FINAL; KSH_LOADKEY (R118, R253). -/
def loadPassword (pw : List Byte) : List HostOp :=
  runCmd .kshInit ++ absorbOps pw ++ runCmd .kshFinal ++ runCmd .kshLoadkey

/-- The commands of CbcEncrypt, reading DOUT after each block (R178). -/
def cbcEncryptOps (iv : Block) (p : List Byte) : List HostOp :=
  runWith iv .cbcSetiv
    ++ (fullBlocks p).flatMap (fun b => runWith b .cbcEnc ++ rd128 .dout)
    ++ runWith (blockOf (lastBytes p)) (.cbcEncf (sliceCount (lastBytes p))) ++ rd128 .dout

/-- The commands of CbcDecrypt on a file's IV, ciphertext blocks and size, reading STATUS and DOUT (R178). -/
def cbcDecryptOps (size : Nat) (iv : Block) (cs : List Block) : List HostOp :=
  [wrReg .din0Lo (BitVec.ofNat 64 size)] ++ runCmd .fmtCbc ++ [rdReg .status] ++ runWith iv .cbcSetiv
    ++ cs.dropLast.flatMap (fun b => runWith b .cbcDec ++ rd128 .dout)
    ++ runWith (cs.getLastD 0) .cbcDecf ++ [rdReg .status] ++ rd128 .dout

/-- The commands of GcmEncrypt, reading DOUT after each block and after the tag (R210). -/
def gcmEncryptOps (iv : Block) (p : List Byte) : List HostOp :=
  runWith iv .gcmInit
    ++ (blocksOf p).flatMap (fun sl => runWith (blockOf sl) (.gcmEnc (sliceCount sl)) ++ rd128 .dout)
    ++ runCmd .gcmTag ++ rd128 .dout

/-- The commands of GcmDecrypt on a file's size, IV, ciphertext and stored tag, reading DOUT after each block and STATUS last (R210). -/
def gcmDecryptOps (size : Nat) (iv : Block) (c : List Byte) (tag : Block) : List HostOp :=
  [wrReg .din0Lo (BitVec.ofNat 64 size)] ++ runCmd .fmtGcm ++ [rdReg .status] ++ runWith iv .gcmInit
    ++ (blocksOf c).flatMap (fun sl => runWith (blockOf sl) (.gcmDec (sliceCount sl)) ++ rd128 .dout)
    ++ runCmd .gcmTag ++ runWith tag .gcmVerify ++ [rdReg .status]

/-- One command with its operand block placed in DIN0: the CORE's part of a composition (R178, R210). The second arm is never taken, since every command completes (R230). -/
def issue (v : Block) (i : Instr) (s : State) : State :=
  match exec i { s with din0 := v } with
  | .next t => t
  | _ => s

/-- A sequence of commands, each with its operand block, and the DOUT read after each of them (R178, R210). -/
def issueCollect : List (Block × Instr) → State → State × List Block
  | [], s => (s, [])
  | c :: cs, s =>
    let t := issue c.1 c.2 s
    let r := issueCollect cs t
    (r.1, t.dout :: r.2)

end Sys2Proof.Machine
end

