-- ==== Sys2Proof/Safety.lean ====
section
/-! DEFINITION. What counts as a safe run: the end of a run (00_scope.md R8), and the invariant of the state between steps (10_state.md R58 and the sentences of R22, R25, R27, R32, R41, R48, R50 it gathers). -/

namespace Sys2Proof.Machine

/-- The end of a HOST program's run: no access left and BUSY = 0 (R8). -/
def State.finished (s : State) : Bool := s.script.isEmpty && !busy s

/-- Every access of the HOST's script is one the spec defines (R64). -/
def State.scriptDefined (s : State) : Bool :=
  s.script.all fun op =>
    match op with
    | .rd width off => (accessProblem width off).isNone
    | .wr width off _ => (accessProblem width off).isNone
    | .wait => true
    | .reset => true

/-- k steps, stopping at the first refusal. -/
def runSteps : Nat → State → Result
  | 0, s => .next s
  | k + 1, s =>
    match step s with
    | .next t => runSteps k t
    | .fault e => .fault e
    | .refused r => .refused r

/-- The CORE's step is due: a command is pending, and either its latency is over or the HOST has nothing left to issue (R254, R265). -/
def State.coreDue (s : State) : Prop := s.pending.valid = true ∧ (s.delay = 0 ∨ s.script = [])

/-- The HOST's operation is due: the script's first one, when the CORE's step is not. -/
def State.hostDue (s : State) (op : HostOp) (rest : List HostOp) : Prop := ¬ s.coreDue ∧ s.script = op :: rest

/-- An error completion at the end of a CORE step: ERRCODE, ERR, and PENDING cleared (R231); with nothing pending, the model's own `delay` is 0. -/
def State.failedWith (s : State) (code : ErrCode) : State :=
  { s with errcode := code, err := true, pending := Pending.empty, delay := 0 }

/-- Every element of R54 but the ROM at its reset value. -/
structure State.AtReset (s : State) : Prop where
  cmd : s.cmd = 0
  status : statusWord s = 0
  din0 : s.din0 = 0
  din1 : s.din1 = 0
  dout : s.dout = 0
  prev : s.prev = 0
  h : s.h = 0
  j0 : s.j0 = 0
  ctr : s.ctr = 0
  acc : s.acc = 0
  tag : s.tag = 0
  len : s.len = 0
  key : ∀ i : Fin 64, s.key[i] = 0
  chk : ∀ i : Fin 512, s.hash.chk[i] = 0
  buf : ∀ i : Fin 1536, s.hash.buf[i] = 0
  cur : s.hash.cur = 0
  fb : s.hash.fb = 0
  hphase : s.hphase = .absorbing
  gphase : s.gphase = .idle
  valid : s.pending.valid = false
  word : s.pending.word = 0

/-- The hash state between steps (R46, R48, R58). -/
structure HashInv (s : State) : Prop where
  /-- HCUR ≤ 511 (R46, R58). -/
  cursor : s.hash.cur.toNat ≤ 511
  /-- After KSH_LOADKEY the hash state is all zero (R48, R58). -/
  consumed : s.hphase = .consumed → s.hash = HashState.fresh
  /-- After KSH_FINAL the window is empty (R114). -/
  final : s.hphase = .final → s.hash.cur = 0

/-- The result register between steps (R32, R58). -/
structure ResultInv (s : State) : Prop where
  /-- OUTLEN ≤ 16. -/
  outlen : s.outlen.toNat ≤ 16
  /-- Bytes of DOUT at positions ≥ OUTLEN are zero. -/
  masked : maskN s.outlen.toNat s.dout = s.dout

/-- The GCM state between steps (R27, R38, R39, R41, R42, R49, R58). -/
structure GcmInv (s : State) : Prop where
  /-- IDLE: no GCM command has run since reset or CLEAR, so what only they write is at its reset value. -/
  idle : s.gphase = .idle → s.j0 = 0 ∧ s.ctr = 0 ∧ s.len = 0 ∧ s.tag = 0
  /-- TAG holds a tag only in DONE (R41, R49). -/
  untagged : s.gphase ≠ .done → s.tag = 0
  /-- The outcome of a comparison is there only in DONE (R27, R204). -/
  valid : s.authValid = true → s.gphase = .done
  /-- AUTH_OK only with AUTH_VALID (R27). -/
  ok : s.authOk = true → s.authValid = true

/-- The handshake and error state between steps (R22, R25, R50); the clause `latencyOver` is the model's own. -/
structure HandshakeInv (s : State) : Prop where
  /-- PENDING is (0, 0) when nothing is pending. -/
  empty : s.pending.valid = false → s.pending = Pending.empty
  /-- The model's choice (log entries 2 and 12): no latency is left when nothing is pending. -/
  latencyOver : s.pending.valid = false → s.delay = 0
  /-- CMD holds bits 31:0 of the pending command. -/
  cmdOfPending : s.pending.valid = true → s.cmd = (s.pending.word.extractLsb' 0 32).setWidth 64
  /-- CMD never holds more than 32 bits. -/
  cmdLow : s.cmd.toNat < 2 ^ 32
  /-- A non-zero ERRCODE leaves ERR set. -/
  sticky : s.errcode ≠ .ok → s.err = true

/-- The invariant of the machine between steps. -/
structure State.Inv (s : State) : Prop where
  hash : HashInv s
  result : ResultInv s
  gcm : GcmInv s
  handshake : HandshakeInv s

end Sys2Proof.Machine
end

