-- ==== Sys2Proof/Certificates/Slice0/Obligations.lean ====
section
/-! DEFINITION. The statements for the provers. An equation with a next state says at once that the command completes, what it writes and that everything else is unchanged. -/

open Sys2Proof Sys2Proof.Machine

/-! Encoding -/

/-- R84, R85, R89: decoding the word of a legal command gives the command back, with its count. -/
def Obligations.DecodeOfEncode : Prop :=
  ∀ i : Instr, i.WellFormed → decode (encode i) = .cmd i

/-- R89: a word decodes to a command only if the command is legal and the word is OPC | (N << 8) of it, so every command has exactly one word. -/
def Obligations.EncodeOfDecode : Prop :=
  ∀ (w : Word) (i : Instr), decode w = .cmd i → i.WellFormed ∧ w = encode i

/-- R86: the illegal encodings, exhaustively, by the ranges the rule lists; each ends its CORE step with ILLEGAL_CMD and no other change (R233). Nothing is said of the model's own field `delay`. -/
def Obligations.IllegalWordsRaiseIllegalCmd : Prop :=
  ∀ s : State, s.coreDue →
    let w := s.pending.word.toNat
    let opc := w % 256
    let n := w / 256 % 32
    let unassigned := (0x02 ≤ opc ∧ opc ≤ 0x0F) ∨ (0x14 ≤ opc ∧ opc ≤ 0x1F) ∨ (0x21 ≤ opc ∧ opc ≤ 0x2F)
      ∨ (0x32 ≤ opc ∧ opc ≤ 0x3F) ∨ (0x45 ≤ opc ∧ opc ≤ 0x4F) ∨ (0x56 ≤ opc ∧ opc ≤ 0x5F) ∨ 0x67 ≤ opc
    let countBad := (opc = 0x11 ∧ 17 ≤ n) ∨ ((opc = 0x44 ∨ opc = 0x61 ∨ opc = 0x62) ∧ (n = 0 ∨ 17 ≤ n))
      ∨ (opc = 0x52 ∧ 16 ≤ n)
      ∨ (opc ≠ 0x11 ∧ opc ≠ 0x44 ∧ opc ≠ 0x61 ∧ opc ≠ 0x62 ∧ opc ≠ 0x52 ∧ n ≠ 0)
    if w / 2 ^ 13 ≠ 0 ∨ unassigned ∨ countBad then
      ∃ d, step s = .next { s.failedWith .illegalCmd with delay := d }
    else ∃ i, decode s.pending.word = .cmd i

/-- Words of 30_encoding.md R84, R89 written out from the encoding, and what they decode to. -/
def Obligations.SampleWordsDecode : Prop :=
  decode 0x0000000000000000 = .cmd .nop ∧ decode 0x0000000000000311 = .cmd (.kshAbsorb 3)
    ∧ decode 0x0000000000000030 = .cmd .blkEnc ∧ decode 0x0000000000001061 = .cmd (.gcmEnc 16)
    ∧ decode 0x0000000000000052 = .cmd (.cbcEncf 0) ∧ decode 0x0000000000001044 = .cmd (.ghUpd 16)
    ∧ decode 0x0000000000000020 = .cmd .keyZero ∧ decode 0x8000000000000030 = .illegal .reservedBits

/-! The step -/

/-- R254: when the CORE's step is due and PENDING.word decodes to a command, the step is that command's meaning, then PENDING <- (0, 0). That the field `delay` returns to 0 is the model's choice (log entry 2). -/
def Obligations.StepRunsTheDecodedCommand : Prop :=
  ∀ (s t : State) (i : Instr), s.coreDue → decode s.pending.word = .cmd i → exec i s = .next t →
    step s = .next { t with pending := Pending.empty, delay := 0 }

/-- R62, R63, R90, R250: when a HOST operation is due, the step is that operation: an aligned 64-bit read changes no CORE state and hands over the value; a write has HostWrite's effect; `wait` goes on only when BUSY reads 0; reset sets every element but the ROM. The HOST's side (script, received, delay, draws) is the model's choice (log entries 1, 2 and 11). -/
def Obligations.StepTakesTheHostOperation : Prop :=
  ∀ (s : State) (op : HostOp) (rest : List HostOp), s.hostDue op rest →
    (∀ off, op = .rd 8 off → off % 8 = 0 → off < 0x1000 →
      step s = .next { s with script := rest, received := s.received ++ [hostRead s off], delay := s.delay - 1 })
    ∧ (∀ off v, op = .wr 8 off v → off % 8 = 0 → off < 0x1000 →
      step s = .next { hostWrite { s with delay := s.delay - 1 } off v with script := rest })
    ∧ (op = .wait → s.pending.valid = true → step s = .next { s with delay := s.delay - 1 })
    ∧ (op = .wait → s.pending.valid = false → step s = .next { s with script := rest, delay := s.delay - 1 })
    ∧ (op = .reset → step s = .next
        { State.resetWith s.rom with script := rest, received := s.received, draws := s.draws })

/-- R64 (I10): a step stops only at a HOST access the spec does not define, and at every such access; it never faults (log entries 1 and 8). -/
def Obligations.StepStopsOnlyAtUndefinedAccess : Prop :=
  ∀ s : State,
    let bad := ∃ op rest, s.hostDue op rest ∧ ∃ width off,
      (op = .rd width off ∨ ∃ v, op = .wr width off v) ∧ (width ≠ 8 ∨ off % 8 ≠ 0 ∨ 0x1000 ≤ off)
    (bad → ∃ r, step s = .refused r) ∧ (¬ bad → ∃ t, step s = .next t)

/-- R254, R265: BUSY clears after at most delay + 1 steps, whatever defined accesses the HOST issues meanwhile. That `delay` counts them is the model's choice (log entry 2). -/
def Obligations.BusyClearsWithinTheLatency : Prop :=
  ∀ s : State, s.pending.valid = true → s.scriptDefined = true →
    ∃ k t, k ≤ s.delay + 1 ∧ runSteps k s = .next t ∧ t.pending.valid = false

/-- R63: HostWrite, every case of its pseudocode: the dropped write, CMD, the four DIN halves, KEY[i], and everything else. Nothing is said of the model's own fields `delay` and `draws`. -/
def Obligations.HostWriteCases : Prop :=
  ∀ (s : State) (v : Word),
    (s.pending.valid = true → ∀ off, off ∈ [0x000, 0x010, 0x018, 0x020, 0x028] ∨ (∃ i : Fin 64, off = 0x100 + 8 * i.val) →
      hostWrite s off v = { s with overrun := true })
    ∧ (s.pending.valid = false →
      (∃ d n, hostWrite s 0x000 v = { s with
          cmd := (v.extractLsb' 0 32).setWidth 64, pending := { valid := true, word := v }, delay := d, draws := n })
      ∧ hostWrite s 0x010 v = { s with din0 := pair v (lo64 s.din0) }
      ∧ hostWrite s 0x018 v = { s with din0 := pair (hi64 s.din0) v }
      ∧ hostWrite s 0x020 v = { s with din1 := pair v (lo64 s.din1) }
      ∧ hostWrite s 0x028 v = { s with din1 := pair (hi64 s.din1) v }
      ∧ ∀ i : Fin 64, hostWrite s (0x100 + 8 * i.val) v = { s with key := s.key.set i.val v })
    ∧ (∀ off, off % 8 = 0 → off ∉ [0x000, 0x010, 0x018, 0x020, 0x028] → (∀ i : Fin 64, off ≠ 0x100 + 8 * i.val) →
      hostWrite s off v = s)

/-- R62 over the register map of R61: RW and RO registers read their value, KEY[i] and the reserved offsets read 0. -/
def Obligations.HostReadMap : Prop :=
  ∀ s : State,
    hostRead s 0x000 = s.cmd ∧ hostRead s 0x008 = statusWord s
    ∧ hostRead s 0x010 = hi64 s.din0 ∧ hostRead s 0x018 = lo64 s.din0
    ∧ hostRead s 0x020 = hi64 s.din1 ∧ hostRead s 0x028 = lo64 s.din1
    ∧ hostRead s 0x030 = hi64 s.dout ∧ hostRead s 0x038 = lo64 s.dout
    ∧ hostRead s 0x040 = hi64 s.prev ∧ hostRead s 0x048 = lo64 s.prev
    ∧ hostRead s 0x050 = hi64 s.h ∧ hostRead s 0x058 = lo64 s.h
    ∧ hostRead s 0x060 = hi64 s.j0 ∧ hostRead s 0x068 = lo64 s.j0
    ∧ hostRead s 0x070 = hi64 s.ctr ∧ hostRead s 0x078 = lo64 s.ctr
    ∧ hostRead s 0x080 = hi64 s.acc ∧ hostRead s 0x088 = lo64 s.acc
    ∧ hostRead s 0x090 = hi64 s.tag ∧ hostRead s 0x098 = lo64 s.tag
    ∧ hostRead s 0x0A0 = s.len
    ∧ (∀ i : Fin 64, hostRead s (0x100 + 8 * i.val) = 0)
    ∧ (∀ off, off % 8 = 0 → (0x0A8 ≤ off ∧ off ≤ 0x0F8) ∨ (0x300 ≤ off ∧ off ≤ 0xFF8) → hostRead s off = 0)

/-- R43, R57: what a HOST reads does not depend on KEY, HCHK, HBUF or HFB. -/
def Obligations.SecretsAreNotReadable : Prop :=
  ∀ (s : State) (k : Schedule) (chk : Vector Byte 512) (buf : Vector Byte 1536) (fb : Byte) (off : Nat),
    hostRead { s with key := k, hash := { s.hash with chk := chk, buf := buf, fb := fb } } off = hostRead s off

/-- R23 with R24, R29, R30, R31, R33: every field of the STATUS word at its place, and the codes of R232 and R23. -/
def Obligations.StatusWordFields : Prop :=
  (∀ s : State,
    (statusWord s).getLsbD 0 = s.pending.valid ∧ (statusWord s).getLsbD 1 = s.err
    ∧ (statusWord s).getLsbD 2 = s.overrun ∧ (statusWord s).getLsbD 3 = s.authValid
    ∧ (statusWord s).getLsbD 4 = s.authOk ∧ (statusWord s).extractLsb' 5 3 = 0
    ∧ (statusWord s).extractLsb' 8 8 = errByte s.errcode ∧ (statusWord s).extractLsb' 16 2 = hphaseBits s.hphase
    ∧ (statusWord s).extractLsb' 18 2 = gphaseBits s.gphase ∧ (statusWord s).extractLsb' 20 10 = s.hash.cur
    ∧ (statusWord s).extractLsb' 30 2 = 0 ∧ (statusWord s).extractLsb' 32 5 = s.outlen
    ∧ (statusWord s).extractLsb' 37 27 = 0)
  ∧ errByte .ok = 0x00 ∧ errByte .illegalCmd = 0x01 ∧ errByte .hashSeq = 0x02 ∧ errByte .badPadding = 0x03
  ∧ errByte .gcmSeq = 0x04 ∧ errByte .formatSize = 0x05
  ∧ hphaseBits .absorbing = 0 ∧ hphaseBits .final = 1 ∧ hphaseBits .consumed = 2
  ∧ gphaseBits .idle = 0 ∧ gphaseBits .opened = 1 ∧ gphaseBits .closed = 2 ∧ gphaseBits .done = 3

/-! Reset and the control commands -/

/-- R54, R250, R252: every element of the CORE but the ROM has its reset value after reset, after the reset event from any state, and (CMD apart) after CLEAR; the ROM is kept. -/
def Obligations.ResetValues : Prop :=
  State.reset.AtReset
    ∧ ∀ s : State, s.resetEvent.AtReset ∧ s.resetEvent.rom = s.rom
      ∧ ∃ t, exec .clear s = .next t ∧ { t with cmd := 0 }.AtReset ∧ t.cmd = s.cmd ∧ t.rom = s.rom

/-- R220: NOP changes ERRCODE only. -/
def Obligations.NopCompletes : Prop :=
  ∀ s : State, exec .nop s = .next { s with errcode := .ok }

/-- R221, R252: CLEAR sets every element of R54 but CMD, CT and HS; that the HOST's side is kept is the model's choice (log entries 1 and 2). -/
def Obligations.ClearErasesAllButCmd : Prop :=
  ∀ s : State, exec .clear s = .next
    { cmd := s.cmd, err := false, overrun := false, authValid := false, authOk := false, errcode := .ok, outlen := 0
      din0 := 0, din1 := 0, dout := 0, prev := 0, h := 0, j0 := 0, ctr := 0, acc := 0, tag := 0, len := 0
      key := Vector.replicate 64 0
      hash := { chk := Vector.replicate 512 0, buf := Vector.replicate 1536 0, cur := 0, fb := 0 }
      hphase := .absorbing, gphase := .idle, pending := { valid := false, word := 0 }, rom := s.rom
      script := s.script, received := s.received, delay := 0, draws := s.draws }

/-! The hash and the key -/

/-- R112, R116: KSH_INIT erases the hash state and opens the absorbing phase; KEY_ZERO erases the schedule. Each in every phase. -/
def Obligations.ErasureCommandsComplete : Prop :=
  ∀ s : State,
    exec .kshInit s = .next
      { s with
        hash := { chk := Vector.replicate 512 0, buf := Vector.replicate 1536 0, cur := 0, fb := 0 }
        hphase := .absorbing, errcode := .ok }
    ∧ exec .keyZero s = .next { s with key := Vector.replicate 64 0, errcode := .ok }

/-- R113: in ABSORBING, KSH_ABSORB N absorbs bytes 0..N-1 of DIN0 in order, N in 0..16, and changes nothing but the hash state and ERRCODE; N = 0 leaves the hash state. -/
def Obligations.KshAbsorbCompletes : Prop :=
  ∀ (s : State) (n : BitVec 5), n.toNat ≤ 16 → s.hphase = .absorbing →
    exec (.kshAbsorb n) s = .next
      { s with hash := (List.range n.toNat).foldl (fun st j => absorbByte s.rom st (blockByte s.din0 j)) s.hash, errcode := .ok }

/-- R114 with R107 and R108: in ABSORBING, KSH_FINAL absorbs n = 512 - HCUR bytes of value n mod 256, then the HCHK that leaves; the window is empty afterwards. -/
def Obligations.KshFinalCompletes : Prop :=
  ∀ s : State, s.hphase = .absorbing → s.hash.cur.toNat ≤ 511 →
    let n := 512 - s.hash.cur.toNat
    let padded := (List.replicate n (BitVec.ofNat 8 (n % 256))).foldl (absorbByte s.rom) s.hash
    let done := padded.chk.toList.foldl (absorbByte s.rom) padded
    exec .kshFinal s = .next { s with hash := done, hphase := .final, errcode := .ok }
    ∧ padded.cur = 0 ∧ done.cur = 0

/-- R115: in FINAL, KSH_LOADKEY fills KEY with the 64 big-endian words of HBUF[0..512) and erases the hash state. -/
def Obligations.KshLoadkeyCompletes : Prop :=
  ∀ s : State, s.hphase = .final →
    ∃ k : Schedule,
      (∀ i : Fin 64, bytes64 k[i] = (List.range 8).map fun j => byteAt s.hash.buf (8 * i.val + j))
      ∧ exec .kshLoadkey s = .next
        { s with
          key := k
          hash := { chk := Vector.replicate 512 0, buf := Vector.replicate 1536 0, cur := 0, fb := 0 }
          hphase := .consumed, errcode := .ok }

/-- R234: the hash commands outside their phase raise HASH_SEQ and change nothing but ERRCODE and ERR; KSH_INIT never does. -/
def Obligations.HashPhaseErrors : Prop :=
  ∀ s : State,
    (s.hphase ≠ .absorbing → (∀ n : BitVec 5, n.toNat ≤ 16 →
        exec (.kshAbsorb n) s = .next { s with errcode := .hashSeq, err := true })
      ∧ exec .kshFinal s = .next { s with errcode := .hashSeq, err := true })
    ∧ (s.hphase ≠ .final → exec .kshLoadkey s = .next { s with errcode := .hashSeq, err := true })
    ∧ ∃ t, exec .kshInit s = .next t ∧ t.errcode = .ok

/-- R102, R103: absorbing one byte at position p: the raw lane, the XOR lane, the checksum, the feedback byte and the cursor, nothing else; at p = 511 a compression follows. For every lane order and XOR source. -/
def Obligations.AbsorbByteWrites : Prop :=
  ∀ (rom : Rom) (st : HashState) (b : Byte), st.cur.toNat ≤ 511 →
    let p := st.cur.toNat
    let raw := laneOffset rom.lanes .raw + p
    let xor := laneOffset rom.lanes .xor + p
    let src := if rom.xorSrc = .checksum then byteAt st.chk p else byteAt st.buf (laneOffset rom.lanes .state + p)
    let w := absorbWrite rom st b
    byteAt w.buf raw = b ∧ byteAt w.buf xor = b ^^^ src
      ∧ (∀ j, j ≠ raw → j ≠ xor → byteAt w.buf j = byteAt st.buf j)
      ∧ byteAt w.chk p = byteAt st.chk p ^^^ lookup rom.hs (b ^^^ st.fb)
      ∧ (∀ j, j ≠ p → byteAt w.chk j = byteAt st.chk j)
      ∧ w.fb = byteAt w.chk p ∧ w.cur.toNat = p + 1
      ∧ absorbByte rom st b = if p = 511 then compress rom w else w

/-- R104, R105: compress() is 514 passes over the whole buffer, t advancing by the round index after each; a pass folds the bytes in ascending order, each with HS of the byte before it (the first with HS[t]), and leaves the last byte in t. HCUR becomes 0; HCHK and HFB are not touched. -/
def Obligations.CompressionFoldsTheBuffer : Prop :=
  ∀ (rom : Rom) (st : HashState), ∃ (t : Nat → Byte) (x : Nat → Nat → Byte),
    t 0 = 0 ∧ (∀ k, k < 1536 → x 0 k = byteAt st.buf k)
    ∧ (∀ r, r < 514 →
        x (r + 1) 0 = x r 0 ^^^ lookup rom.hs (t r)
        ∧ (∀ k, k < 1535 → x (r + 1) (k + 1) = x r (k + 1) ^^^ lookup rom.hs (x (r + 1) k))
        ∧ t (r + 1) = x (r + 1) 1535 + BitVec.ofNat 8 r)
    ∧ (∀ k, k < 1536 → byteAt (compress rom st).buf k = x 514 k)
    ∧ (compress rom st).cur = 0 ∧ (compress rom st).chk = st.chk ∧ (compress rom st).fb = st.fb

/-- R118, R106: KSH_INIT, any sequence of KSH_ABSORB commands with counts of at most 16, KSH_FINAL and KSH_LOADKEY leave KEY = schedule(ksh(pw)), pw the bytes absorbed: how pw was split does not matter. -/
def Obligations.ScheduleIgnoresChunking : Prop :=
  ∀ (s : State) (chunks : List (Block × BitVec 5)), (∀ c ∈ chunks, c.2.toNat ≤ 16) →
    let s1 := chunks.foldl (fun st c => issue c.1 (.kshAbsorb c.2) st) (issue 0 .kshInit s)
    let s3 := issue 0 .kshLoadkey (issue 0 .kshFinal s1)
    let pw := chunks.flatMap fun c => (bytes128 c.1).take c.2.toNat
    s3.key = scheduleOf (ksh s.rom pw) ∧ s3.hphase = .consumed ∧ s3.hash = HashState.fresh ∧ s3.errcode = .ok

/-! The block cipher -/

/-- R130: each table entry packs two permutations, and every table is a permutation of the bytes. -/
def Obligations.CipherTablesArePermutations : Prop :=
  ∀ (p : Fin 16 → Equiv.Perm (BitVec 4)) (assign : Fin 8 → Fin 16 × Fin 16) (j : Fin 8),
    (∀ i : Byte, lookup (cipherTables (fun m => p m) assign)[j] i =
      ((p (assign j).1 ((i >>> 4).setWidth 4)).setWidth 8 <<< 4) ||| (p (assign j).2 ((i &&& 0xF).setWidth 4)).setWidth 8)
    ∧ Function.Bijective (lookup (cipherTables (fun m => p m) assign)[j])

/-- R131, R132: byte 7-j of f(x) rotated back by 11 is CT[j] of byte 7-j of x. -/
def Obligations.RoundFunctionSubstitutesAndRotates : Prop :=
  ∀ (ct : CipherTables) (x : Word) (j : Fin 8),
    ((roundF ct x).rotateRight 11).extractLsb' (56 - 8 * j.val) 8 = lookup ct[j] (x.extractLsb' (56 - 8 * j.val) 8)

/-- R134, R135: E and D as their 32 rounds: b takes f(a + its first subkey), then a takes f(b + its second), from the HI and LO halves, and the output is b ‖ a; E uses K[2i] then K[2i+1], D uses K[63-2i] then K[62-2i]. -/
def Obligations.CipherRunsTheRounds : Prop :=
  ∀ (ct : CipherTables) (k : Schedule) (x : Block),
    (∃ a b : Nat → Word,
      a 0 = hi64 x ∧ b 0 = lo64 x
      ∧ (∀ i : Fin 32, b (i.val + 1) = b i.val ^^^ roundF ct (a i.val + k[2 * i.val])
        ∧ a (i.val + 1) = a i.val ^^^ roundF ct (b (i.val + 1) + k[2 * i.val + 1]))
      ∧ encrypt ct k x = b 32 ++ a 32)
    ∧ (∃ a b : Nat → Word,
      a 0 = hi64 x ∧ b 0 = lo64 x
      ∧ (∀ i : Fin 32, b (i.val + 1) = b i.val ^^^ roundF ct (a i.val + k[63 - 2 * i.val])
        ∧ a (i.val + 1) = a i.val ^^^ roundF ct (b (i.val + 1) + k[62 - 2 * i.val]))
      ∧ decrypt ct k x = b 32 ++ a 32)

/-- R136: decryption undoes encryption and the other way round, for all blocks, schedules and tables. -/
def Obligations.DecryptUndoesEncrypt : Prop :=
  ∀ (ct : CipherTables) (k : Schedule) (x : Block), decrypt ct k (encrypt ct k x) = x ∧ encrypt ct k (decrypt ct k x) = x

/-- R138, R139: BLK_ENC and BLK_DEC write DOUT, OUTLEN = 16 and ERRCODE only. -/
def Obligations.BlockCommandsComplete : Prop :=
  ∀ s : State,
    exec .blkEnc s = .next { s with dout := encrypt s.rom.ct s.key s.din0, outlen := 16, errcode := .ok }
    ∧ exec .blkDec s = .next { s with dout := decrypt s.rom.ct s.key s.din0, outlen := 16, errcode := .ok }

/-! The field and GHASH -/

/-- R153: gfmul has zero and identity laws on both sides and distributes over ⊕ on both sides. R150: X with only bit 127-k set gives Y after k shifts, each reduced with 0xE1 in the top 8 bits when a 1 is shifted out; with distributivity this fixes gfmul. -/
def Obligations.GfmulLaws : Prop :=
  ∀ x y z : Block,
    gfmul 0 x = 0 ∧ gfmul x 0 = 0
    ∧ gfmul 0x80000000000000000000000000000000 x = x ∧ gfmul x 0x80000000000000000000000000000000 = x
    ∧ gfmul (x ^^^ y) z = gfmul x z ^^^ gfmul y z ∧ gfmul x (y ^^^ z) = gfmul x y ^^^ gfmul x z
    ∧ ∃ v : Nat → Block, v 0 = y
      ∧ (∀ k, k < 127 → v (k + 1) = (v k >>> 1) ^^^ (if (v k).getLsbD 0 then 0xE1#128 <<< 120 else 0))
      ∧ ∀ k, k < 128 → gfmul (0x80000000000000000000000000000000 >>> k) y = v k

/-- R153: gfmul is commutative. -/
def Obligations.GfmulCommutes : Prop :=
  ∀ x y : Block, gfmul x y = gfmul y x

/-- R154, R155, R156, R157: GF_MUL, and the commands that set H and clear ACC. -/
def Obligations.FieldCommandsComplete : Prop :=
  ∀ s : State,
    exec .gfMul s = .next { s with dout := gfmul s.din0 s.din1, outlen := 16, errcode := .ok }
    ∧ exec .ghSeth s = .next { s with h := encrypt s.rom.ct s.key 0, errcode := .ok }
    ∧ exec .ghLdh s = .next { s with h := s.din0, errcode := .ok }
    ∧ exec .ghClr s = .next { s with acc := 0, errcode := .ok }

/-- R158, R151: GH_UPD N mixes the block made of bytes 0..N-1 of DIN0 and zeroes into ACC, in every GPHASE. -/
def Obligations.GhUpdCompletes : Prop :=
  ∀ (s : State) (n : BitVec 5), 1 ≤ n.toNat → n.toNat ≤ 16 →
    ∃ b : Block, (∀ j, j < 16 → blockByte b j = if j < n.toNat then blockByte s.din0 j else 0)
      ∧ exec (.ghUpd n) s = .next { s with acc := gfmul (s.acc ^^^ b) s.h, errcode := .ok }

/-- R92: the commands with a count ignore the bytes of DIN0 beyond it. -/
def Obligations.PartialBlocksIgnoreTheRest : Prop :=
  ∀ (s t : State) (v : Block) (n : BitVec 5) (i : Instr),
    i ∈ [Instr.kshAbsorb n, .ghUpd n, .cbcEncf n, .gcmEnc n, .gcmDec n] →
    (∀ j, j < n.toNat → blockByte v j = blockByte s.din0 j) →
    exec i s = .next t → exec i { s with din0 := v } = .next { t with din0 := v }

/-! CBC -/

/-- R172, R173, R175: CBC_SETIV, CBC_ENC and CBC_DEC. -/
def Obligations.CbcBlockCommandsComplete : Prop :=
  ∀ s : State,
    exec .cbcSetiv s = .next { s with prev := s.din0, errcode := .ok }
    ∧ exec .cbcEnc s = .next
      { s with
        prev := encrypt s.rom.ct s.key (s.din0 ^^^ s.prev), dout := encrypt s.rom.ct s.key (s.din0 ^^^ s.prev)
        outlen := 16, errcode := .ok }
    ∧ exec .cbcDec s = .next
      { s with prev := s.din0, dout := decrypt s.rom.ct s.key s.din0 ^^^ s.prev, outlen := 16, errcode := .ok }

/-- R174: CBC_ENCF N encrypts bytes 0..N-1 of DIN0 followed by 16 - N bytes of value 16 - N, chained, N in 0..15. -/
def Obligations.CbcEncfCompletes : Prop :=
  ∀ (s : State) (n : BitVec 5), n.toNat ≤ 15 →
    ∃ q c : Block,
      (∀ j, j < 16 → blockByte q j = if j < n.toNat then blockByte s.din0 j else BitVec.ofNat 8 (16 - n.toNat))
      ∧ c = encrypt s.rom.ct s.key (q ^^^ s.prev)
      ∧ exec (.cbcEncf n) s = .next { s with prev := c, dout := c, outlen := 16, errcode := .ok }

/-- R176: CBC_DECF with a valid pad byte p releases the first 16 - p bytes, zero-padded; with an invalid one it withholds the block, keeps PREV and raises BAD_PADDING. -/
def Obligations.CbcDecfChecksThePadding : Prop :=
  ∀ s : State,
    let q := decrypt s.rom.ct s.key s.din0 ^^^ s.prev
    let p := (blockByte q 15).toNat
    if 1 ≤ p ∧ p ≤ 16 ∧ ∀ j, 16 - p ≤ j → j < 16 → blockByte q j = blockByte q 15 then
      ∃ d : Block, (∀ j, j < 16 → blockByte d j = if j < 16 - p then blockByte q j else 0)
        ∧ exec .cbcDecf s = .next
          { s with prev := s.din0, dout := d, outlen := BitVec.ofNat 5 (16 - p), errcode := .ok }
    else exec .cbcDecf s = .next { s with dout := 0, outlen := 0, errcode := .badPadding, err := true }

/-- R177, R205, R237: FMT_CBC and FMT_GCM on DIN0_LO as an unsigned number. -/
def Obligations.FormatCommandsCheckTheSize : Prop :=
  ∀ s : State,
    let size := (lo64 s.din0).toNat
    (if size < 64 ∨ (size - 48) % 16 ≠ 0 then exec .fmtCbc s = .next { s with errcode := .formatSize, err := true }
      else exec .fmtCbc s = .next { s with dout := BitVec.ofNat 128 (size - 48), outlen := 16, errcode := .ok })
    ∧ (if size < 32 then exec .fmtGcm s = .next { s with errcode := .formatSize, err := true }
      else exec .fmtGcm s = .next { s with dout := BitVec.ofNat 128 (size - 32), outlen := 16, errcode := .ok })

/-- R165: the padded length is the least multiple of 16 above the length, and the pad is p bytes of value p, p in 1..16. -/
def Obligations.PkcsPaddingShape : Prop :=
  ∀ p : List Byte, (pkcs7 p).length = 16 * (p.length / 16 + 1) ∧ (pkcs7 p).take p.length = p
    ∧ ∃ n : Nat, 1 ≤ n ∧ n ≤ 16 ∧ (pkcs7 p).length = p.length + n
      ∧ (pkcs7 p).drop p.length = List.replicate n (BitVec.ofNat 8 n)

/-- R178: the encryption commands of a message, CBC_SETIV, CBC_ENC for each full block and CBC_ENCF for the rest, give the ciphertext blocks of CbcEncrypt. -/
def Obligations.CbcCommandsEncryptTheMessage : Prop :=
  ∀ (s : State) (iv : Block) (p : List Byte),
    let r := issueCollect ((fullBlocks p).map fun b => (b, Instr.cbcEnc)) (issue iv .cbcSetiv s)
    let s2 := issue (blockOf (lastBytes p)) (.cbcEncf (sliceCount (lastBytes p))) r.1
    r.2 ++ [s2.dout] = cbcCipherBlocks s.rom.ct s.key iv p ∧ s2.errcode = .ok

/-- R178: the decryption commands of a list of ciphertext blocks, CBC_SETIV, CBC_DEC for each but the last and CBC_DECF for the last, release the blocks of CbcDecrypt, or end in BAD_PADDING with the last block withheld. -/
def Obligations.CbcCommandsDecryptTheMessage : Prop :=
  ∀ (s : State) (iv c : Block) (cs : List Block),
    let r := issueCollect (cs.map fun b => (b, Instr.cbcDec)) (issue iv .cbcSetiv s)
    let s2 := issue c .cbcDecf r.1
    let q := cbcUnchain s.rom.ct s.key iv (cs ++ [c])
    let final := q.getLastD 0
    r.2 = q.dropLast
      ∧ if padValid final then
          s2.errcode = .ok ∧ (bytes128 s2.dout).take s2.outlen.toNat = (bytes128 final).take (16 - padLength final)
        else s2.errcode = .badPadding ∧ s2.dout = 0 ∧ s2.outlen = 0

/-- R180: CbcDecrypt of CbcEncrypt is the message, authenticated; the file length is 16 + 16·(⌊|P|/16⌋ + 1) + 32. -/
def Obligations.CbcRoundTrips : Prop :=
  ∀ (ct : CipherTables) (k : Schedule) (iv : Block) (p : List Byte),
    cbcDecrypt ct k (cbcEncrypt ct k iv p) = .ok p true
    ∧ (cbcEncrypt ct k iv p).length = 16 + 16 * (p.length / 16 + 1) + 32

/-! GCM -/

/-- R200, R192: GCM_INIT, in every phase. -/
def Obligations.GcmInitCompletes : Prop :=
  ∀ s : State,
    let h := encrypt s.rom.ct s.key 0
    let j0 := gfmul (gfmul s.din0 h ^^^ 128) h
    exec .gcmInit s = .next
      { s with
        h := h, j0 := j0, ctr := incLow32 j0, acc := 0, len := 0, tag := 0
        authValid := false, authOk := false, gphase := .opened, errcode := .ok }

/-- R201: GCM_ENC N in OPEN, N in 1..16: the ciphertext bytes, the GHASH of the zero-padded ciphertext, the counter, the byte count and the phase. -/
def Obligations.GcmEncCompletes : Prop :=
  ∀ (s : State) (n : BitVec 5), 1 ≤ n.toNat → n.toNat ≤ 16 → s.gphase = .opened →
    ∃ c : Block,
      (∀ j, j < 16 → blockByte c j =
        if j < n.toNat then blockByte s.din0 j ^^^ blockByte (encrypt s.rom.ct s.key s.ctr) j else 0)
      ∧ exec (.gcmEnc n) s = .next
        { s with
          acc := gfmul (s.acc ^^^ c) s.h, ctr := incLow32 s.ctr, len := BitVec.ofNat 64 (s.len.toNat + n.toNat)
          dout := c, outlen := n, gphase := if n.toNat < 16 then .closed else .opened, errcode := .ok }

/-- R202: GCM_DEC N in OPEN, N in 1..16: the ciphertext enters ACC, the plaintext goes to DOUT. -/
def Obligations.GcmDecCompletes : Prop :=
  ∀ (s : State) (n : BitVec 5), 1 ≤ n.toNat → n.toNat ≤ 16 → s.gphase = .opened →
    ∃ c p : Block,
      (∀ j, j < 16 → blockByte c j = if j < n.toNat then blockByte s.din0 j else 0)
      ∧ (∀ j, j < 16 → blockByte p j =
        if j < n.toNat then blockByte s.din0 j ^^^ blockByte (encrypt s.rom.ct s.key s.ctr) j else 0)
      ∧ exec (.gcmDec n) s = .next
        { s with
          acc := gfmul (s.acc ^^^ c) s.h, ctr := incLow32 s.ctr, len := BitVec.ofNat 64 (s.len.toNat + n.toNat)
          dout := p, outlen := n, gphase := if n.toNat < 16 then .closed else .opened, errcode := .ok }

/-- R203: GCM_TAG in OPEN or CLOSED, with the lengths block 8·LEN mod 2^64. -/
def Obligations.GcmTagCompletes : Prop :=
  ∀ s : State, s.gphase = .opened ∨ s.gphase = .closed →
    let a := gfmul (s.acc ^^^ BitVec.ofNat 128 (8 * s.len.toNat % 2 ^ 64)) s.h
    let t := encrypt s.rom.ct s.key s.j0 ^^^ a
    exec .gcmTag s = .next { s with acc := a, tag := t, dout := t, outlen := 16, gphase := .done, errcode := .ok }

/-- R204, R198, R240: GCM_VERIFY in DONE sets AUTH_OK exactly when all 16 bytes agree, and never raises an error for a mismatch. -/
def Obligations.GcmVerifyCompletes : Prop :=
  ∀ s : State, s.gphase = .done →
    exec .gcmVerify s = .next { s with authOk := decide (s.din0 = s.tag), authValid := true, errcode := .ok }

/-- R236: the GCM commands outside their phase raise GCM_SEQ and change nothing but ERRCODE and ERR; GCM_INIT never does. -/
def Obligations.GcmPhaseErrors : Prop :=
  ∀ s : State,
    (s.gphase ≠ .opened → ∀ n : BitVec 5, 1 ≤ n.toNat → n.toNat ≤ 16 →
      exec (.gcmEnc n) s = .next { s with errcode := .gcmSeq, err := true }
      ∧ exec (.gcmDec n) s = .next { s with errcode := .gcmSeq, err := true })
    ∧ (s.gphase = .idle ∨ s.gphase = .done → exec .gcmTag s = .next { s with errcode := .gcmSeq, err := true })
    ∧ (s.gphase ≠ .done → exec .gcmVerify s = .next { s with errcode := .gcmSeq, err := true })
    ∧ ∃ t, exec .gcmInit s = .next t ∧ t.errcode = .ok

/-- R190, R207: INC32 increments the low 32 bits modulo 2^32 and keeps the upper 96. -/
def Obligations.IncCompletes : Prop :=
  ∀ s : State, ∃ d : Block, d = incLow32 s.din0 ∧
    d.toNat % 2 ^ 32 = (s.din0.toNat % 2 ^ 32 + 1) % 2 ^ 32 ∧ d.toNat / 2 ^ 32 = s.din0.toNat / 2 ^ 32
    ∧ exec .inc32 s = .next { s with dout := d, outlen := 16, errcode := .ok }

/-- R210: GCM_INIT, one GCM_ENC per slice of the message and GCM_TAG give the ciphertext and the tag of GcmEncrypt. -/
def Obligations.GcmCommandsEncryptTheMessage : Prop :=
  ∀ (s : State) (iv : Block) (p : List Byte),
    let r := issueCollect ((blocksOf p).map fun sl => (blockOf sl, Instr.gcmEnc (sliceCount sl))) (issue iv .gcmInit s)
    let s2 := issue 0 .gcmTag r.1
    let c := (List.zipWith (fun d sl => (bytes128 d).take sl.length) r.2 (blocksOf p)).flatten
    c = gcmCrypt s.rom.ct s.key iv p ∧ s2.dout = gcmTagOf s.rom.ct s.key iv c ∧ s2.errcode = .ok
    ∧ r.1.len = BitVec.ofNat 64 p.length

/-- R210: GCM_INIT, one GCM_DEC per slice of the ciphertext, GCM_TAG and GCM_VERIFY with the stored tag give the plaintext and the authentication outcome of GcmDecrypt. -/
def Obligations.GcmCommandsDecryptTheMessage : Prop :=
  ∀ (s : State) (iv tag : Block) (c : List Byte),
    let r := issueCollect ((blocksOf c).map fun sl => (blockOf sl, Instr.gcmDec (sliceCount sl))) (issue iv .gcmInit s)
    let s3 := issue tag .gcmVerify (issue 0 .gcmTag r.1)
    let p := (List.zipWith (fun d sl => (bytes128 d).take sl.length) r.2 (blocksOf c)).flatten
    p = gcmCrypt s.rom.ct s.key iv c ∧ s3.authValid = true
    ∧ s3.authOk = decide (tag = gcmTagOf s.rom.ct s.key iv c) ∧ s3.errcode = .ok

/-- R211: GcmDecrypt of GcmEncrypt is the message, authenticated; the ciphertext has the plaintext's length. -/
def Obligations.GcmRoundTrips : Prop :=
  ∀ (ct : CipherTables) (k : Schedule) (iv : Block) (p : List Byte),
    gcmDecrypt ct k (gcmEncrypt ct k iv p) = .ok p true ∧ (gcmCrypt ct k iv p).length = p.length

/-! Errors and whole-machine rules -/

/-- R231: a CORE step that ends with an error changes ERRCODE, ERR and PENDING only, but for CBC_DECF, which also clears DOUT and OUTLEN. -/
def Obligations.ErrorCompletionChangesNothingElse : Prop :=
  ∀ s t : State, s.coreDue → step s = .next t → t.errcode ≠ .ok →
    t = { s.failedWith t.errcode with delay := t.delay }
    ∨ (decode s.pending.word = .cmd .cbcDecf
      ∧ t = { s.failedWith .badPadding with dout := 0, outlen := 0, delay := t.delay })

/-- R25, R26: ERR and OVERRUN are cleared by nothing but CLEAR and the reset event; a CORE step with ERRCODE ≠ 0 sets ERR, and one with ERRCODE = 0 other than CLEAR leaves it. -/
def Obligations.StickyBitsAreSticky : Prop :=
  ∀ s t : State, step s = .next t →
    let cleared := (s.coreDue ∧ decode s.pending.word = .cmd .clear) ∨ ∃ rest, s.hostDue .reset rest
    (¬ cleared → s.err = true → t.err = true) ∧ (¬ cleared → s.overrun = true → t.overrun = true)
    ∧ (s.coreDue → t.errcode ≠ .ok → t.err = true)
    ∧ (s.coreDue → ¬ cleared → t.errcode = .ok → t.err = s.err)

/-- R34 to R43: which commands write which registers; a command not named for a register leaves it. CLEAR, which writes them all, is stated apart. -/
def Obligations.CommandsWriteOnlyTheirRegisters : Prop :=
  ∀ (i : Instr) (s t : State), exec i s = .next t → i ≠ .clear →
    t.cmd = s.cmd ∧ t.din0 = s.din0 ∧ t.din1 = s.din1 ∧ t.overrun = s.overrun ∧ t.pending = s.pending ∧ t.rom = s.rom
    ∧ (t.dout ≠ s.dout ∨ t.outlen ≠ s.outlen →
        i ∈ [Instr.blkEnc, .blkDec, .gfMul, .cbcEnc, .cbcDec, .cbcDecf, .fmtCbc, .fmtGcm, .gcmTag, .inc32]
        ∨ ∃ n, i ∈ [Instr.cbcEncf n, .gcmEnc n, .gcmDec n])
    ∧ (t.prev ≠ s.prev → i ∈ [Instr.cbcSetiv, .cbcEnc, .cbcDec, .cbcDecf] ∨ ∃ n, i = .cbcEncf n)
    ∧ (t.h ≠ s.h → i ∈ [Instr.ghSeth, .ghLdh, .gcmInit])
    ∧ (t.j0 ≠ s.j0 → i = .gcmInit)
    ∧ (t.ctr ≠ s.ctr ∨ t.len ≠ s.len → i = .gcmInit ∨ ∃ n, i ∈ [Instr.gcmEnc n, .gcmDec n])
    ∧ (t.acc ≠ s.acc → i ∈ [Instr.ghClr, .gcmInit, .gcmTag] ∨ ∃ n, i ∈ [Instr.ghUpd n, .gcmEnc n, .gcmDec n])
    ∧ (t.tag ≠ s.tag → i ∈ [Instr.gcmInit, .gcmTag])
    ∧ (t.key ≠ s.key → i ∈ [Instr.kshLoadkey, .keyZero])
    ∧ (t.hash ≠ s.hash ∨ t.hphase ≠ s.hphase → i ∈ [Instr.kshInit, .kshFinal, .kshLoadkey] ∨ ∃ n, i = .kshAbsorb n)
    ∧ (t.gphase ≠ s.gphase → i ∈ [Instr.gcmInit, .gcmTag] ∨ ∃ n, i ∈ [Instr.gcmEnc n, .gcmDec n])
    ∧ (t.authValid ≠ s.authValid ∨ t.authOk ≠ s.authOk → i ∈ [Instr.gcmInit, .gcmVerify])

/-- R48, R49: the only moves of the two phase machines. -/
def Obligations.PhaseTransitions : Prop :=
  ∀ (i : Instr) (s t : State), exec i s = .next t →
    (t.hphase ≠ s.hphase →
      (i = .kshFinal ∧ s.hphase = .absorbing ∧ t.hphase = .final)
      ∨ (i = .kshLoadkey ∧ s.hphase = .final ∧ t.hphase = .consumed)
      ∨ ((i = .kshInit ∨ i = .clear) ∧ t.hphase = .absorbing))
    ∧ (t.gphase ≠ s.gphase →
      (i = .gcmInit ∧ t.gphase = .opened)
      ∨ ((∃ n : BitVec 5, n.toNat < 16 ∧ i ∈ [Instr.gcmEnc n, .gcmDec n]) ∧ s.gphase = .opened ∧ t.gphase = .closed)
      ∨ (i = .gcmTag ∧ (s.gphase = .opened ∨ s.gphase = .closed) ∧ t.gphase = .done)
      ∨ (i = .clear ∧ t.gphase = .idle))

/-- R51, R52: no step, command or reset changes the ROM. -/
def Obligations.RomNeverChanges : Prop :=
  ∀ s t : State, step s = .next t → t.rom = s.rom

/-- R255, R256: while a command is pending, a HOST access other than reset does not change what the command will do: the CORE step after the access gives the same state as before it, but for OVERRUN and the HOST's own side (log entry 1). -/
def Obligations.PendingCommandIsShieldedFromTheHost : Prop :=
  ∀ (s u : State) (op : HostOp), s.pending.valid = true → op ≠ .reset → hostOp s op = .next u →
    ∃ t t', coreStep s = .next t ∧ coreStep u = .next t'
      ∧ t' = { t with script := t'.script, received := t'.received, overrun := t'.overrun }
      ∧ (t.overrun = true → t'.overrun = true)

/-- R58 with the sentences of R22, R25, R27, R32, R41, R46, R48 and R50 that Safety.lean gathers: every step keeps the invariant. Its clause `latencyOver` speaks of the model's own field `delay` and is the model's choice (log entries 2 and 12). -/
def Obligations.StepKeepsTheInvariant : Prop :=
  ∀ s t : State, s.Inv → step s = .next t → t.Inv

/-- The reset state meets the invariant. That `delay` is 0 at reset, in its clause `latencyOver`, is the model's choice (log entries 2 and 12). -/
def Obligations.ResetMeetsTheInvariant : Prop := State.reset.Inv
end

