-- ==== Sys2Proof/Laws/Hash.lean ====
section
/-! SUPPORT. The small laws of the hash: arrays, lanes, the cursor and absorbing in pieces. -/

namespace Sys2Proof.Machine

theorem byteAt_putByte {n : Nat} (v : Vector Byte n) (i j : Nat) (b : Byte) :
    byteAt (putByte v i b) j = if i = j ∧ i < n then b else byteAt v j := by
  unfold byteAt putByte
  rw [Vector.getElem?_setIfInBounds]
  by_cases hij : i = j
  · subst hij
    by_cases hn : i < n <;> simp [hn]
  · simp [hij]

/-- The lanes lie at three different multiples of 512 below 1536 (R101). -/
theorem laneOffset_spec (l : HashLanes) (a : Lane) :
    laneOffset l a = 0 ∨ laneOffset l a = 512 ∨ laneOffset l a = 1024 := by
  cases l <;> cases a <;> simp [laneOffset]

theorem laneOffset_injective (l : HashLanes) {a b : Lane} (hab : laneOffset l a = laneOffset l b) : a = b := by
  cases l <;> cases a <;> cases b <;> simp_all [laneOffset]

@[simp] theorem absorb_nil (rom : Rom) (st : HashState) : absorb rom st [] = st := rfl

@[simp] theorem absorb_cons (rom : Rom) (st : HashState) (b : Byte) (bs : List Byte) :
    absorb rom st (b :: bs) = absorb rom (absorbByte rom st b) bs := rfl

@[simp] theorem absorbWrite_cur (rom : Rom) (st : HashState) (b : Byte) :
    (absorbWrite rom st b).cur = st.cur + 1 := rfl

@[simp] theorem compress_cur (rom : Rom) (st : HashState) : (compress rom st).cur = 0 := rfl
@[simp] theorem compress_chk (rom : Rom) (st : HashState) : (compress rom st).chk = st.chk := rfl
@[simp] theorem compress_fb (rom : Rom) (st : HashState) : (compress rom st).fb = st.fb := rfl

/-- The cursor after one byte, from a cursor of at most 511: one more, or 0 when the window fills (R102, R103). -/
theorem absorbByte_cur (rom : Rom) (st : HashState) (b : Byte) (hc : st.cur.toNat ≤ 511) :
    (absorbByte rom st b).cur.toNat = (st.cur.toNat + 1) % 512 := by
  have hadd : (st.cur + 1).toNat = st.cur.toNat + 1 := by
    rw [BitVec.toNat_add]
    show (st.cur.toNat + 1) % 1024 = _
    omega
  by_cases he : st.cur + 1 = 512
  · have h512 : st.cur.toNat + 1 = 512 := by rw [← hadd, he]; rfl
    simp only [absorbByte, absorbWrite_cur, he, if_true, compress_cur, h512]
    rfl
  · have hne : st.cur.toNat + 1 ≠ 512 := fun h => he (BitVec.eq_of_toNat_eq (by rw [hadd, h]; rfl))
    simp only [absorbByte, absorbWrite_cur, he, if_false]
    rw [hadd, Nat.mod_eq_of_lt (by omega)]

/-- The cursor after absorbing a byte string, from a cursor of at most 511 (R102, R103, R106). -/
theorem absorb_cur (rom : Rom) (bs : List Byte) (st : HashState) (hc : st.cur.toNat ≤ 511) :
    (absorb rom st bs).cur.toNat = (st.cur.toNat + bs.length) % 512 := by
  induction bs generalizing st with
  | nil => simp only [absorb_nil, List.length_nil]; omega
  | cons b bs ih =>
    have hb := absorbByte_cur rom st b hc
    rw [absorb_cons, ih _ (by omega), hb]
    simp only [List.length_cons]
    omega

end Sys2Proof.Machine
end

