-- ==== Sys2Proof/Laws/Operands.lean ====
section
/-! SUPPORT. The small laws of the operand forms: halves of a register, the bytes of a block and the partial-block mask. -/

namespace Sys2Proof.Machine

theorem getLsbD_pair (a b : Word) (i : Nat) :
    (pair a b).getLsbD i = if i < 64 then b.getLsbD i else a.getLsbD (i - 64) :=
  BitVec.getLsbD_append (x := a) (y := b) (i := i)

@[simp] theorem hi64_pair (a b : Word) : hi64 (pair a b) = a := by
  apply BitVec.eq_of_getLsbD_eq
  intro i hi
  simp only [hi64, BitVec.getLsbD_extractLsb', getLsbD_pair, hi, decide_true, Bool.true_and]
  rw [if_neg (by omega), Nat.add_sub_cancel_left]

@[simp] theorem lo64_pair (a b : Word) : lo64 (pair a b) = b := by
  apply BitVec.eq_of_getLsbD_eq
  intro i hi
  simp only [lo64, BitVec.getLsbD_extractLsb', getLsbD_pair, hi, decide_true, Bool.true_and, Nat.zero_add, if_true]

@[simp] theorem pair_hi64_lo64 (v : Block) : pair (hi64 v) (lo64 v) = v := by
  apply BitVec.eq_of_getLsbD_eq
  intro i hi
  rw [getLsbD_pair]
  by_cases h : i < 64
  · simp [lo64, h]
  · have h' : i - 64 < 64 := by omega
    have h2 : 64 + (i - 64) = i := by omega
    simp [hi64, h, h', h2]

@[simp] theorem hi64_withHi (v : Block) (w : Word) : hi64 (withHi v w) = w := by simp [withHi]
@[simp] theorem lo64_withHi (v : Block) (w : Word) : lo64 (withHi v w) = lo64 v := by simp [withHi]
@[simp] theorem hi64_withLo (v : Block) (w : Word) : hi64 (withLo v w) = hi64 v := by simp [withLo]
@[simp] theorem lo64_withLo (v : Block) (w : Word) : lo64 (withLo v w) = w := by simp [withLo]

@[simp] theorem bytes128_length (v : Block) : (bytes128 v).length = 16 := by simp [bytes128]

@[simp] theorem bytes64_length (w : Word) : (bytes64 w).length = 8 := by simp [bytes64]

theorem bytes128_getElem (v : Block) (i : Nat) (hi : i < (bytes128 v).length) :
    (bytes128 v)[i] = blockByte v i := by
  simp [bytes128]

theorem getLsbD_maskN (n : Nat) (v : Block) (i : Nat) :
    (maskN n v).getLsbD i = (decide (128 - 8 * n ≤ i) && v.getLsbD i) := by
  simp only [maskN, BitVec.getLsbD_and, BitVec.getLsbD_shiftLeft, BitVec.getLsbD_allOnes]
  by_cases hi : i < 128
  · by_cases hn : 128 - 8 * n ≤ i
    · have h1 : ¬ i < 128 - 8 * n := by omega
      have h2 : i - (128 - 8 * n) < 128 := by omega
      simp [hi, hn, h1, h2]
    · have h1 : i < 128 - 8 * n := by omega
      simp [hi, hn, h1]
  · have h1 : v.getLsbD i = false := BitVec.getLsbD_of_ge v i (by omega)
    simp [h1]

/-- The mask keeps bytes 0..N-1 and zeroes the others (R13). -/
theorem blockByte_maskN (n : Nat) (v : Block) (i : Nat) (hi : i < 16) :
    blockByte (maskN n v) i = if i < n then blockByte v i else 0 := by
  apply BitVec.eq_of_getLsbD_eq
  intro j hj
  by_cases hn : i < n
  · have h1 : 128 - 8 * n ≤ 120 - 8 * i + j := by omega
    simp [blockByte, getLsbD_maskN, hn, h1, hj]
  · have h1 : ¬ 128 - 8 * n ≤ 120 - 8 * i + j := by omega
    simp [blockByte, getLsbD_maskN, hn, h1]

@[simp] theorem maskN_idem (n : Nat) (v : Block) : maskN n (maskN n v) = maskN n v := by
  apply BitVec.eq_of_getLsbD_eq
  intro i _
  simp only [getLsbD_maskN, ← Bool.and_assoc, Bool.and_self]

@[simp] theorem maskN_zero_value (n : Nat) : maskN n 0 = 0 := by simp [maskN]

theorem maskN_full (n : Nat) (hn : 16 ≤ n) (v : Block) : maskN n v = v := by
  apply BitVec.eq_of_getLsbD_eq
  intro i _
  have h1 : 128 - 8 * n ≤ i := by omega
  simp [getLsbD_maskN, h1]

theorem maskN_xor (n : Nat) (v w : Block) : maskN n (v ^^^ w) = maskN n v ^^^ maskN n w := by
  apply BitVec.eq_of_getLsbD_eq
  intro i _
  simp only [getLsbD_maskN, BitVec.getLsbD_xor]
  cases decide (128 - 8 * n ≤ i) <;> simp

/-- Two blocks whose 16 bytes agree are equal. -/
theorem block_ext (v w : Block) (hb : ∀ i, i < 16 → blockByte v i = blockByte w i) : v = w := by
  apply BitVec.eq_of_getLsbD_eq
  intro i hi
  have h1 := congrArg (fun b => b.getLsbD (i % 8)) (hb (15 - i / 8) (by omega))
  have h2 : 120 - 8 * (15 - i / 8) + i % 8 = i := by omega
  have h3 : i % 8 < 8 := by omega
  simpa [blockByte, h2, h3] using h1

end Sys2Proof.Machine
end

