-- ==== Sys2Proof/Laws/State.lean ====
section
/-! SUPPORT. What each named update of the state does to each field, one lemma per field per update, so that no proof unfolds an update. -/

namespace Sys2Proof.Machine

@[simp] theorem State.complete_cmd (s : State) : s.complete.cmd = s.cmd := rfl
@[simp] theorem State.complete_err (s : State) : s.complete.err = s.err := rfl
@[simp] theorem State.complete_overrun (s : State) : s.complete.overrun = s.overrun := rfl
@[simp] theorem State.complete_authValid (s : State) : s.complete.authValid = s.authValid := rfl
@[simp] theorem State.complete_authOk (s : State) : s.complete.authOk = s.authOk := rfl
@[simp] theorem State.complete_errcode (s : State) : s.complete.errcode = .ok := rfl
@[simp] theorem State.complete_outlen (s : State) : s.complete.outlen = s.outlen := rfl
@[simp] theorem State.complete_din0 (s : State) : s.complete.din0 = s.din0 := rfl
@[simp] theorem State.complete_din1 (s : State) : s.complete.din1 = s.din1 := rfl
@[simp] theorem State.complete_dout (s : State) : s.complete.dout = s.dout := rfl
@[simp] theorem State.complete_prev (s : State) : s.complete.prev = s.prev := rfl
@[simp] theorem State.complete_h (s : State) : s.complete.h = s.h := rfl
@[simp] theorem State.complete_j0 (s : State) : s.complete.j0 = s.j0 := rfl
@[simp] theorem State.complete_ctr (s : State) : s.complete.ctr = s.ctr := rfl
@[simp] theorem State.complete_acc (s : State) : s.complete.acc = s.acc := rfl
@[simp] theorem State.complete_tag (s : State) : s.complete.tag = s.tag := rfl
@[simp] theorem State.complete_len (s : State) : s.complete.len = s.len := rfl
@[simp] theorem State.complete_key (s : State) : s.complete.key = s.key := rfl
@[simp] theorem State.complete_hash (s : State) : s.complete.hash = s.hash := rfl
@[simp] theorem State.complete_hphase (s : State) : s.complete.hphase = s.hphase := rfl
@[simp] theorem State.complete_gphase (s : State) : s.complete.gphase = s.gphase := rfl
@[simp] theorem State.complete_pending (s : State) : s.complete.pending = s.pending := rfl
@[simp] theorem State.complete_rom (s : State) : s.complete.rom = s.rom := rfl
@[simp] theorem State.complete_script (s : State) : s.complete.script = s.script := rfl
@[simp] theorem State.complete_received (s : State) : s.complete.received = s.received := rfl
@[simp] theorem State.complete_delay (s : State) : s.complete.delay = s.delay := rfl
@[simp] theorem State.complete_draws (s : State) : s.complete.draws = s.draws := rfl

@[simp] theorem State.raiseError_cmd (s : State) (code : ErrCode) : (s.raiseError code).cmd = s.cmd := rfl
@[simp] theorem State.raiseError_err (s : State) (code : ErrCode) : (s.raiseError code).err = true := rfl
@[simp] theorem State.raiseError_overrun (s : State) (code : ErrCode) : (s.raiseError code).overrun = s.overrun := rfl
@[simp] theorem State.raiseError_authValid (s : State) (code : ErrCode) : (s.raiseError code).authValid = s.authValid := rfl
@[simp] theorem State.raiseError_authOk (s : State) (code : ErrCode) : (s.raiseError code).authOk = s.authOk := rfl
@[simp] theorem State.raiseError_errcode (s : State) (code : ErrCode) : (s.raiseError code).errcode = code := rfl
@[simp] theorem State.raiseError_outlen (s : State) (code : ErrCode) : (s.raiseError code).outlen = s.outlen := rfl
@[simp] theorem State.raiseError_din0 (s : State) (code : ErrCode) : (s.raiseError code).din0 = s.din0 := rfl
@[simp] theorem State.raiseError_din1 (s : State) (code : ErrCode) : (s.raiseError code).din1 = s.din1 := rfl
@[simp] theorem State.raiseError_dout (s : State) (code : ErrCode) : (s.raiseError code).dout = s.dout := rfl
@[simp] theorem State.raiseError_prev (s : State) (code : ErrCode) : (s.raiseError code).prev = s.prev := rfl
@[simp] theorem State.raiseError_h (s : State) (code : ErrCode) : (s.raiseError code).h = s.h := rfl
@[simp] theorem State.raiseError_j0 (s : State) (code : ErrCode) : (s.raiseError code).j0 = s.j0 := rfl
@[simp] theorem State.raiseError_ctr (s : State) (code : ErrCode) : (s.raiseError code).ctr = s.ctr := rfl
@[simp] theorem State.raiseError_acc (s : State) (code : ErrCode) : (s.raiseError code).acc = s.acc := rfl
@[simp] theorem State.raiseError_tag (s : State) (code : ErrCode) : (s.raiseError code).tag = s.tag := rfl
@[simp] theorem State.raiseError_len (s : State) (code : ErrCode) : (s.raiseError code).len = s.len := rfl
@[simp] theorem State.raiseError_key (s : State) (code : ErrCode) : (s.raiseError code).key = s.key := rfl
@[simp] theorem State.raiseError_hash (s : State) (code : ErrCode) : (s.raiseError code).hash = s.hash := rfl
@[simp] theorem State.raiseError_hphase (s : State) (code : ErrCode) : (s.raiseError code).hphase = s.hphase := rfl
@[simp] theorem State.raiseError_gphase (s : State) (code : ErrCode) : (s.raiseError code).gphase = s.gphase := rfl
@[simp] theorem State.raiseError_pending (s : State) (code : ErrCode) : (s.raiseError code).pending = s.pending := rfl
@[simp] theorem State.raiseError_rom (s : State) (code : ErrCode) : (s.raiseError code).rom = s.rom := rfl
@[simp] theorem State.raiseError_script (s : State) (code : ErrCode) : (s.raiseError code).script = s.script := rfl
@[simp] theorem State.raiseError_received (s : State) (code : ErrCode) : (s.raiseError code).received = s.received := rfl
@[simp] theorem State.raiseError_delay (s : State) (code : ErrCode) : (s.raiseError code).delay = s.delay := rfl
@[simp] theorem State.raiseError_draws (s : State) (code : ErrCode) : (s.raiseError code).draws = s.draws := rfl

@[simp] theorem State.writeDout_cmd (s : State) (v : Block) (n : BitVec 5) : (s.writeDout v n).cmd = s.cmd := rfl
@[simp] theorem State.writeDout_err (s : State) (v : Block) (n : BitVec 5) : (s.writeDout v n).err = s.err := rfl
@[simp] theorem State.writeDout_overrun (s : State) (v : Block) (n : BitVec 5) : (s.writeDout v n).overrun = s.overrun := rfl
@[simp] theorem State.writeDout_authValid (s : State) (v : Block) (n : BitVec 5) : (s.writeDout v n).authValid = s.authValid := rfl
@[simp] theorem State.writeDout_authOk (s : State) (v : Block) (n : BitVec 5) : (s.writeDout v n).authOk = s.authOk := rfl
@[simp] theorem State.writeDout_errcode (s : State) (v : Block) (n : BitVec 5) : (s.writeDout v n).errcode = s.errcode := rfl
@[simp] theorem State.writeDout_outlen (s : State) (v : Block) (n : BitVec 5) : (s.writeDout v n).outlen = n := rfl
@[simp] theorem State.writeDout_din0 (s : State) (v : Block) (n : BitVec 5) : (s.writeDout v n).din0 = s.din0 := rfl
@[simp] theorem State.writeDout_din1 (s : State) (v : Block) (n : BitVec 5) : (s.writeDout v n).din1 = s.din1 := rfl
@[simp] theorem State.writeDout_dout (s : State) (v : Block) (n : BitVec 5) : (s.writeDout v n).dout = v := rfl
@[simp] theorem State.writeDout_prev (s : State) (v : Block) (n : BitVec 5) : (s.writeDout v n).prev = s.prev := rfl
@[simp] theorem State.writeDout_h (s : State) (v : Block) (n : BitVec 5) : (s.writeDout v n).h = s.h := rfl
@[simp] theorem State.writeDout_j0 (s : State) (v : Block) (n : BitVec 5) : (s.writeDout v n).j0 = s.j0 := rfl
@[simp] theorem State.writeDout_ctr (s : State) (v : Block) (n : BitVec 5) : (s.writeDout v n).ctr = s.ctr := rfl
@[simp] theorem State.writeDout_acc (s : State) (v : Block) (n : BitVec 5) : (s.writeDout v n).acc = s.acc := rfl
@[simp] theorem State.writeDout_tag (s : State) (v : Block) (n : BitVec 5) : (s.writeDout v n).tag = s.tag := rfl
@[simp] theorem State.writeDout_len (s : State) (v : Block) (n : BitVec 5) : (s.writeDout v n).len = s.len := rfl
@[simp] theorem State.writeDout_key (s : State) (v : Block) (n : BitVec 5) : (s.writeDout v n).key = s.key := rfl
@[simp] theorem State.writeDout_hash (s : State) (v : Block) (n : BitVec 5) : (s.writeDout v n).hash = s.hash := rfl
@[simp] theorem State.writeDout_hphase (s : State) (v : Block) (n : BitVec 5) : (s.writeDout v n).hphase = s.hphase := rfl
@[simp] theorem State.writeDout_gphase (s : State) (v : Block) (n : BitVec 5) : (s.writeDout v n).gphase = s.gphase := rfl
@[simp] theorem State.writeDout_pending (s : State) (v : Block) (n : BitVec 5) : (s.writeDout v n).pending = s.pending := rfl
@[simp] theorem State.writeDout_rom (s : State) (v : Block) (n : BitVec 5) : (s.writeDout v n).rom = s.rom := rfl
@[simp] theorem State.writeDout_script (s : State) (v : Block) (n : BitVec 5) : (s.writeDout v n).script = s.script := rfl
@[simp] theorem State.writeDout_received (s : State) (v : Block) (n : BitVec 5) : (s.writeDout v n).received = s.received := rfl
@[simp] theorem State.writeDout_delay (s : State) (v : Block) (n : BitVec 5) : (s.writeDout v n).delay = s.delay := rfl
@[simp] theorem State.writeDout_draws (s : State) (v : Block) (n : BitVec 5) : (s.writeDout v n).draws = s.draws := rfl

@[simp] theorem State.clearPending_cmd (s : State) : s.clearPending.cmd = s.cmd := rfl
@[simp] theorem State.clearPending_err (s : State) : s.clearPending.err = s.err := rfl
@[simp] theorem State.clearPending_overrun (s : State) : s.clearPending.overrun = s.overrun := rfl
@[simp] theorem State.clearPending_authValid (s : State) : s.clearPending.authValid = s.authValid := rfl
@[simp] theorem State.clearPending_authOk (s : State) : s.clearPending.authOk = s.authOk := rfl
@[simp] theorem State.clearPending_errcode (s : State) : s.clearPending.errcode = s.errcode := rfl
@[simp] theorem State.clearPending_outlen (s : State) : s.clearPending.outlen = s.outlen := rfl
@[simp] theorem State.clearPending_din0 (s : State) : s.clearPending.din0 = s.din0 := rfl
@[simp] theorem State.clearPending_din1 (s : State) : s.clearPending.din1 = s.din1 := rfl
@[simp] theorem State.clearPending_dout (s : State) : s.clearPending.dout = s.dout := rfl
@[simp] theorem State.clearPending_prev (s : State) : s.clearPending.prev = s.prev := rfl
@[simp] theorem State.clearPending_h (s : State) : s.clearPending.h = s.h := rfl
@[simp] theorem State.clearPending_j0 (s : State) : s.clearPending.j0 = s.j0 := rfl
@[simp] theorem State.clearPending_ctr (s : State) : s.clearPending.ctr = s.ctr := rfl
@[simp] theorem State.clearPending_acc (s : State) : s.clearPending.acc = s.acc := rfl
@[simp] theorem State.clearPending_tag (s : State) : s.clearPending.tag = s.tag := rfl
@[simp] theorem State.clearPending_len (s : State) : s.clearPending.len = s.len := rfl
@[simp] theorem State.clearPending_key (s : State) : s.clearPending.key = s.key := rfl
@[simp] theorem State.clearPending_hash (s : State) : s.clearPending.hash = s.hash := rfl
@[simp] theorem State.clearPending_hphase (s : State) : s.clearPending.hphase = s.hphase := rfl
@[simp] theorem State.clearPending_gphase (s : State) : s.clearPending.gphase = s.gphase := rfl
@[simp] theorem State.clearPending_pending (s : State) : s.clearPending.pending = Pending.empty := rfl
@[simp] theorem State.clearPending_rom (s : State) : s.clearPending.rom = s.rom := rfl
@[simp] theorem State.clearPending_script (s : State) : s.clearPending.script = s.script := rfl
@[simp] theorem State.clearPending_received (s : State) : s.clearPending.received = s.received := rfl
@[simp] theorem State.clearPending_delay (s : State) : s.clearPending.delay = 0 := rfl
@[simp] theorem State.clearPending_draws (s : State) : s.clearPending.draws = s.draws := rfl

@[simp] theorem State.noteOverrun_cmd (s : State) : s.noteOverrun.cmd = s.cmd := rfl
@[simp] theorem State.noteOverrun_err (s : State) : s.noteOverrun.err = s.err := rfl
@[simp] theorem State.noteOverrun_overrun (s : State) : s.noteOverrun.overrun = true := rfl
@[simp] theorem State.noteOverrun_authValid (s : State) : s.noteOverrun.authValid = s.authValid := rfl
@[simp] theorem State.noteOverrun_authOk (s : State) : s.noteOverrun.authOk = s.authOk := rfl
@[simp] theorem State.noteOverrun_errcode (s : State) : s.noteOverrun.errcode = s.errcode := rfl
@[simp] theorem State.noteOverrun_outlen (s : State) : s.noteOverrun.outlen = s.outlen := rfl
@[simp] theorem State.noteOverrun_din0 (s : State) : s.noteOverrun.din0 = s.din0 := rfl
@[simp] theorem State.noteOverrun_din1 (s : State) : s.noteOverrun.din1 = s.din1 := rfl
@[simp] theorem State.noteOverrun_dout (s : State) : s.noteOverrun.dout = s.dout := rfl
@[simp] theorem State.noteOverrun_prev (s : State) : s.noteOverrun.prev = s.prev := rfl
@[simp] theorem State.noteOverrun_h (s : State) : s.noteOverrun.h = s.h := rfl
@[simp] theorem State.noteOverrun_j0 (s : State) : s.noteOverrun.j0 = s.j0 := rfl
@[simp] theorem State.noteOverrun_ctr (s : State) : s.noteOverrun.ctr = s.ctr := rfl
@[simp] theorem State.noteOverrun_acc (s : State) : s.noteOverrun.acc = s.acc := rfl
@[simp] theorem State.noteOverrun_tag (s : State) : s.noteOverrun.tag = s.tag := rfl
@[simp] theorem State.noteOverrun_len (s : State) : s.noteOverrun.len = s.len := rfl
@[simp] theorem State.noteOverrun_key (s : State) : s.noteOverrun.key = s.key := rfl
@[simp] theorem State.noteOverrun_hash (s : State) : s.noteOverrun.hash = s.hash := rfl
@[simp] theorem State.noteOverrun_hphase (s : State) : s.noteOverrun.hphase = s.hphase := rfl
@[simp] theorem State.noteOverrun_gphase (s : State) : s.noteOverrun.gphase = s.gphase := rfl
@[simp] theorem State.noteOverrun_pending (s : State) : s.noteOverrun.pending = s.pending := rfl
@[simp] theorem State.noteOverrun_rom (s : State) : s.noteOverrun.rom = s.rom := rfl
@[simp] theorem State.noteOverrun_script (s : State) : s.noteOverrun.script = s.script := rfl
@[simp] theorem State.noteOverrun_received (s : State) : s.noteOverrun.received = s.received := rfl
@[simp] theorem State.noteOverrun_delay (s : State) : s.noteOverrun.delay = s.delay := rfl
@[simp] theorem State.noteOverrun_draws (s : State) : s.noteOverrun.draws = s.draws := rfl

@[simp] theorem State.tick_cmd (s : State) : s.tick.cmd = s.cmd := rfl
@[simp] theorem State.tick_err (s : State) : s.tick.err = s.err := rfl
@[simp] theorem State.tick_overrun (s : State) : s.tick.overrun = s.overrun := rfl
@[simp] theorem State.tick_authValid (s : State) : s.tick.authValid = s.authValid := rfl
@[simp] theorem State.tick_authOk (s : State) : s.tick.authOk = s.authOk := rfl
@[simp] theorem State.tick_errcode (s : State) : s.tick.errcode = s.errcode := rfl
@[simp] theorem State.tick_outlen (s : State) : s.tick.outlen = s.outlen := rfl
@[simp] theorem State.tick_din0 (s : State) : s.tick.din0 = s.din0 := rfl
@[simp] theorem State.tick_din1 (s : State) : s.tick.din1 = s.din1 := rfl
@[simp] theorem State.tick_dout (s : State) : s.tick.dout = s.dout := rfl
@[simp] theorem State.tick_prev (s : State) : s.tick.prev = s.prev := rfl
@[simp] theorem State.tick_h (s : State) : s.tick.h = s.h := rfl
@[simp] theorem State.tick_j0 (s : State) : s.tick.j0 = s.j0 := rfl
@[simp] theorem State.tick_ctr (s : State) : s.tick.ctr = s.ctr := rfl
@[simp] theorem State.tick_acc (s : State) : s.tick.acc = s.acc := rfl
@[simp] theorem State.tick_tag (s : State) : s.tick.tag = s.tag := rfl
@[simp] theorem State.tick_len (s : State) : s.tick.len = s.len := rfl
@[simp] theorem State.tick_key (s : State) : s.tick.key = s.key := rfl
@[simp] theorem State.tick_hash (s : State) : s.tick.hash = s.hash := rfl
@[simp] theorem State.tick_hphase (s : State) : s.tick.hphase = s.hphase := rfl
@[simp] theorem State.tick_gphase (s : State) : s.tick.gphase = s.gphase := rfl
@[simp] theorem State.tick_pending (s : State) : s.tick.pending = s.pending := rfl
@[simp] theorem State.tick_rom (s : State) : s.tick.rom = s.rom := rfl
@[simp] theorem State.tick_script (s : State) : s.tick.script = s.script := rfl
@[simp] theorem State.tick_received (s : State) : s.tick.received = s.received := rfl
@[simp] theorem State.tick_delay (s : State) : s.tick.delay = s.delay - 1 := rfl
@[simp] theorem State.tick_draws (s : State) : s.tick.draws = s.draws := rfl

@[simp] theorem State.popScript_cmd (s : State) : s.popScript.cmd = s.cmd := rfl
@[simp] theorem State.popScript_err (s : State) : s.popScript.err = s.err := rfl
@[simp] theorem State.popScript_overrun (s : State) : s.popScript.overrun = s.overrun := rfl
@[simp] theorem State.popScript_authValid (s : State) : s.popScript.authValid = s.authValid := rfl
@[simp] theorem State.popScript_authOk (s : State) : s.popScript.authOk = s.authOk := rfl
@[simp] theorem State.popScript_errcode (s : State) : s.popScript.errcode = s.errcode := rfl
@[simp] theorem State.popScript_outlen (s : State) : s.popScript.outlen = s.outlen := rfl
@[simp] theorem State.popScript_din0 (s : State) : s.popScript.din0 = s.din0 := rfl
@[simp] theorem State.popScript_din1 (s : State) : s.popScript.din1 = s.din1 := rfl
@[simp] theorem State.popScript_dout (s : State) : s.popScript.dout = s.dout := rfl
@[simp] theorem State.popScript_prev (s : State) : s.popScript.prev = s.prev := rfl
@[simp] theorem State.popScript_h (s : State) : s.popScript.h = s.h := rfl
@[simp] theorem State.popScript_j0 (s : State) : s.popScript.j0 = s.j0 := rfl
@[simp] theorem State.popScript_ctr (s : State) : s.popScript.ctr = s.ctr := rfl
@[simp] theorem State.popScript_acc (s : State) : s.popScript.acc = s.acc := rfl
@[simp] theorem State.popScript_tag (s : State) : s.popScript.tag = s.tag := rfl
@[simp] theorem State.popScript_len (s : State) : s.popScript.len = s.len := rfl
@[simp] theorem State.popScript_key (s : State) : s.popScript.key = s.key := rfl
@[simp] theorem State.popScript_hash (s : State) : s.popScript.hash = s.hash := rfl
@[simp] theorem State.popScript_hphase (s : State) : s.popScript.hphase = s.hphase := rfl
@[simp] theorem State.popScript_gphase (s : State) : s.popScript.gphase = s.gphase := rfl
@[simp] theorem State.popScript_pending (s : State) : s.popScript.pending = s.pending := rfl
@[simp] theorem State.popScript_rom (s : State) : s.popScript.rom = s.rom := rfl
@[simp] theorem State.popScript_script (s : State) : s.popScript.script = s.script.tail := rfl
@[simp] theorem State.popScript_received (s : State) : s.popScript.received = s.received := rfl
@[simp] theorem State.popScript_delay (s : State) : s.popScript.delay = s.delay := rfl
@[simp] theorem State.popScript_draws (s : State) : s.popScript.draws = s.draws := rfl

@[simp] theorem State.receive_cmd (s : State) (v : Word) : (s.receive v).cmd = s.cmd := rfl
@[simp] theorem State.receive_err (s : State) (v : Word) : (s.receive v).err = s.err := rfl
@[simp] theorem State.receive_overrun (s : State) (v : Word) : (s.receive v).overrun = s.overrun := rfl
@[simp] theorem State.receive_authValid (s : State) (v : Word) : (s.receive v).authValid = s.authValid := rfl
@[simp] theorem State.receive_authOk (s : State) (v : Word) : (s.receive v).authOk = s.authOk := rfl
@[simp] theorem State.receive_errcode (s : State) (v : Word) : (s.receive v).errcode = s.errcode := rfl
@[simp] theorem State.receive_outlen (s : State) (v : Word) : (s.receive v).outlen = s.outlen := rfl
@[simp] theorem State.receive_din0 (s : State) (v : Word) : (s.receive v).din0 = s.din0 := rfl
@[simp] theorem State.receive_din1 (s : State) (v : Word) : (s.receive v).din1 = s.din1 := rfl
@[simp] theorem State.receive_dout (s : State) (v : Word) : (s.receive v).dout = s.dout := rfl
@[simp] theorem State.receive_prev (s : State) (v : Word) : (s.receive v).prev = s.prev := rfl
@[simp] theorem State.receive_h (s : State) (v : Word) : (s.receive v).h = s.h := rfl
@[simp] theorem State.receive_j0 (s : State) (v : Word) : (s.receive v).j0 = s.j0 := rfl
@[simp] theorem State.receive_ctr (s : State) (v : Word) : (s.receive v).ctr = s.ctr := rfl
@[simp] theorem State.receive_acc (s : State) (v : Word) : (s.receive v).acc = s.acc := rfl
@[simp] theorem State.receive_tag (s : State) (v : Word) : (s.receive v).tag = s.tag := rfl
@[simp] theorem State.receive_len (s : State) (v : Word) : (s.receive v).len = s.len := rfl
@[simp] theorem State.receive_key (s : State) (v : Word) : (s.receive v).key = s.key := rfl
@[simp] theorem State.receive_hash (s : State) (v : Word) : (s.receive v).hash = s.hash := rfl
@[simp] theorem State.receive_hphase (s : State) (v : Word) : (s.receive v).hphase = s.hphase := rfl
@[simp] theorem State.receive_gphase (s : State) (v : Word) : (s.receive v).gphase = s.gphase := rfl
@[simp] theorem State.receive_pending (s : State) (v : Word) : (s.receive v).pending = s.pending := rfl
@[simp] theorem State.receive_rom (s : State) (v : Word) : (s.receive v).rom = s.rom := rfl
@[simp] theorem State.receive_script (s : State) (v : Word) : (s.receive v).script = s.script := rfl
@[simp] theorem State.receive_received (s : State) (v : Word) : (s.receive v).received = s.received ++ [v] := rfl
@[simp] theorem State.receive_delay (s : State) (v : Word) : (s.receive v).delay = s.delay := rfl
@[simp] theorem State.receive_draws (s : State) (v : Word) : (s.receive v).draws = s.draws := rfl

@[simp] theorem State.acceptCommand_cmd (s : State) (w : Word) : (s.acceptCommand w).cmd = (w.extractLsb' 0 32).setWidth 64 := rfl
@[simp] theorem State.acceptCommand_err (s : State) (w : Word) : (s.acceptCommand w).err = s.err := rfl
@[simp] theorem State.acceptCommand_overrun (s : State) (w : Word) : (s.acceptCommand w).overrun = s.overrun := rfl
@[simp] theorem State.acceptCommand_authValid (s : State) (w : Word) : (s.acceptCommand w).authValid = s.authValid := rfl
@[simp] theorem State.acceptCommand_authOk (s : State) (w : Word) : (s.acceptCommand w).authOk = s.authOk := rfl
@[simp] theorem State.acceptCommand_errcode (s : State) (w : Word) : (s.acceptCommand w).errcode = s.errcode := rfl
@[simp] theorem State.acceptCommand_outlen (s : State) (w : Word) : (s.acceptCommand w).outlen = s.outlen := rfl
@[simp] theorem State.acceptCommand_din0 (s : State) (w : Word) : (s.acceptCommand w).din0 = s.din0 := rfl
@[simp] theorem State.acceptCommand_din1 (s : State) (w : Word) : (s.acceptCommand w).din1 = s.din1 := rfl
@[simp] theorem State.acceptCommand_dout (s : State) (w : Word) : (s.acceptCommand w).dout = s.dout := rfl
@[simp] theorem State.acceptCommand_prev (s : State) (w : Word) : (s.acceptCommand w).prev = s.prev := rfl
@[simp] theorem State.acceptCommand_h (s : State) (w : Word) : (s.acceptCommand w).h = s.h := rfl
@[simp] theorem State.acceptCommand_j0 (s : State) (w : Word) : (s.acceptCommand w).j0 = s.j0 := rfl
@[simp] theorem State.acceptCommand_ctr (s : State) (w : Word) : (s.acceptCommand w).ctr = s.ctr := rfl
@[simp] theorem State.acceptCommand_acc (s : State) (w : Word) : (s.acceptCommand w).acc = s.acc := rfl
@[simp] theorem State.acceptCommand_tag (s : State) (w : Word) : (s.acceptCommand w).tag = s.tag := rfl
@[simp] theorem State.acceptCommand_len (s : State) (w : Word) : (s.acceptCommand w).len = s.len := rfl
@[simp] theorem State.acceptCommand_key (s : State) (w : Word) : (s.acceptCommand w).key = s.key := rfl
@[simp] theorem State.acceptCommand_hash (s : State) (w : Word) : (s.acceptCommand w).hash = s.hash := rfl
@[simp] theorem State.acceptCommand_hphase (s : State) (w : Word) : (s.acceptCommand w).hphase = s.hphase := rfl
@[simp] theorem State.acceptCommand_gphase (s : State) (w : Word) : (s.acceptCommand w).gphase = s.gphase := rfl
@[simp] theorem State.acceptCommand_pending (s : State) (w : Word) : (s.acceptCommand w).pending = { valid := true, word := w } := rfl
@[simp] theorem State.acceptCommand_rom (s : State) (w : Word) : (s.acceptCommand w).rom = s.rom := rfl
@[simp] theorem State.acceptCommand_script (s : State) (w : Word) : (s.acceptCommand w).script = s.script := rfl
@[simp] theorem State.acceptCommand_received (s : State) (w : Word) : (s.acceptCommand w).received = s.received := rfl
@[simp] theorem State.acceptCommand_delay (s : State) (w : Word) : (s.acceptCommand w).delay = Config.latency s.draws := rfl
@[simp] theorem State.acceptCommand_draws (s : State) (w : Word) : (s.acceptCommand w).draws = s.draws + 1 := rfl

@[simp] theorem State.gcmAdvance_cmd (s : State) (c : Block) (n : BitVec 5) : (s.gcmAdvance c n).cmd = s.cmd := rfl
@[simp] theorem State.gcmAdvance_err (s : State) (c : Block) (n : BitVec 5) : (s.gcmAdvance c n).err = s.err := rfl
@[simp] theorem State.gcmAdvance_overrun (s : State) (c : Block) (n : BitVec 5) : (s.gcmAdvance c n).overrun = s.overrun := rfl
@[simp] theorem State.gcmAdvance_authValid (s : State) (c : Block) (n : BitVec 5) : (s.gcmAdvance c n).authValid = s.authValid := rfl
@[simp] theorem State.gcmAdvance_authOk (s : State) (c : Block) (n : BitVec 5) : (s.gcmAdvance c n).authOk = s.authOk := rfl
@[simp] theorem State.gcmAdvance_errcode (s : State) (c : Block) (n : BitVec 5) : (s.gcmAdvance c n).errcode = s.errcode := rfl
@[simp] theorem State.gcmAdvance_outlen (s : State) (c : Block) (n : BitVec 5) : (s.gcmAdvance c n).outlen = s.outlen := rfl
@[simp] theorem State.gcmAdvance_din0 (s : State) (c : Block) (n : BitVec 5) : (s.gcmAdvance c n).din0 = s.din0 := rfl
@[simp] theorem State.gcmAdvance_din1 (s : State) (c : Block) (n : BitVec 5) : (s.gcmAdvance c n).din1 = s.din1 := rfl
@[simp] theorem State.gcmAdvance_dout (s : State) (c : Block) (n : BitVec 5) : (s.gcmAdvance c n).dout = s.dout := rfl
@[simp] theorem State.gcmAdvance_prev (s : State) (c : Block) (n : BitVec 5) : (s.gcmAdvance c n).prev = s.prev := rfl
@[simp] theorem State.gcmAdvance_h (s : State) (c : Block) (n : BitVec 5) : (s.gcmAdvance c n).h = s.h := rfl
@[simp] theorem State.gcmAdvance_j0 (s : State) (c : Block) (n : BitVec 5) : (s.gcmAdvance c n).j0 = s.j0 := rfl
@[simp] theorem State.gcmAdvance_ctr (s : State) (c : Block) (n : BitVec 5) : (s.gcmAdvance c n).ctr = incLow32 s.ctr := rfl
@[simp] theorem State.gcmAdvance_acc (s : State) (c : Block) (n : BitVec 5) : (s.gcmAdvance c n).acc = ghash s.acc s.h c := rfl
@[simp] theorem State.gcmAdvance_tag (s : State) (c : Block) (n : BitVec 5) : (s.gcmAdvance c n).tag = s.tag := rfl
@[simp] theorem State.gcmAdvance_len (s : State) (c : Block) (n : BitVec 5) : (s.gcmAdvance c n).len = s.len + n.setWidth 64 := rfl
@[simp] theorem State.gcmAdvance_key (s : State) (c : Block) (n : BitVec 5) : (s.gcmAdvance c n).key = s.key := rfl
@[simp] theorem State.gcmAdvance_hash (s : State) (c : Block) (n : BitVec 5) : (s.gcmAdvance c n).hash = s.hash := rfl
@[simp] theorem State.gcmAdvance_hphase (s : State) (c : Block) (n : BitVec 5) : (s.gcmAdvance c n).hphase = s.hphase := rfl
@[simp] theorem State.gcmAdvance_gphase (s : State) (c : Block) (n : BitVec 5) : (s.gcmAdvance c n).gphase = phaseAfter (count n) s.gphase := rfl
@[simp] theorem State.gcmAdvance_pending (s : State) (c : Block) (n : BitVec 5) : (s.gcmAdvance c n).pending = s.pending := rfl
@[simp] theorem State.gcmAdvance_rom (s : State) (c : Block) (n : BitVec 5) : (s.gcmAdvance c n).rom = s.rom := rfl
@[simp] theorem State.gcmAdvance_script (s : State) (c : Block) (n : BitVec 5) : (s.gcmAdvance c n).script = s.script := rfl
@[simp] theorem State.gcmAdvance_received (s : State) (c : Block) (n : BitVec 5) : (s.gcmAdvance c n).received = s.received := rfl
@[simp] theorem State.gcmAdvance_delay (s : State) (c : Block) (n : BitVec 5) : (s.gcmAdvance c n).delay = s.delay := rfl
@[simp] theorem State.gcmAdvance_draws (s : State) (c : Block) (n : BitVec 5) : (s.gcmAdvance c n).draws = s.draws := rfl

@[simp] theorem State.eraseCore_cmd (s : State) : s.eraseCore.cmd = 0 := rfl
@[simp] theorem State.eraseCore_err (s : State) : s.eraseCore.err = false := rfl
@[simp] theorem State.eraseCore_overrun (s : State) : s.eraseCore.overrun = false := rfl
@[simp] theorem State.eraseCore_authValid (s : State) : s.eraseCore.authValid = false := rfl
@[simp] theorem State.eraseCore_authOk (s : State) : s.eraseCore.authOk = false := rfl
@[simp] theorem State.eraseCore_errcode (s : State) : s.eraseCore.errcode = .ok := rfl
@[simp] theorem State.eraseCore_outlen (s : State) : s.eraseCore.outlen = 0 := rfl
@[simp] theorem State.eraseCore_din0 (s : State) : s.eraseCore.din0 = 0 := rfl
@[simp] theorem State.eraseCore_din1 (s : State) : s.eraseCore.din1 = 0 := rfl
@[simp] theorem State.eraseCore_dout (s : State) : s.eraseCore.dout = 0 := rfl
@[simp] theorem State.eraseCore_prev (s : State) : s.eraseCore.prev = 0 := rfl
@[simp] theorem State.eraseCore_h (s : State) : s.eraseCore.h = 0 := rfl
@[simp] theorem State.eraseCore_j0 (s : State) : s.eraseCore.j0 = 0 := rfl
@[simp] theorem State.eraseCore_ctr (s : State) : s.eraseCore.ctr = 0 := rfl
@[simp] theorem State.eraseCore_acc (s : State) : s.eraseCore.acc = 0 := rfl
@[simp] theorem State.eraseCore_tag (s : State) : s.eraseCore.tag = 0 := rfl
@[simp] theorem State.eraseCore_len (s : State) : s.eraseCore.len = 0 := rfl
@[simp] theorem State.eraseCore_key (s : State) : s.eraseCore.key = Vector.replicate 64 0 := rfl
@[simp] theorem State.eraseCore_hash (s : State) : s.eraseCore.hash = HashState.fresh := rfl
@[simp] theorem State.eraseCore_hphase (s : State) : s.eraseCore.hphase = .absorbing := rfl
@[simp] theorem State.eraseCore_gphase (s : State) : s.eraseCore.gphase = .idle := rfl
@[simp] theorem State.eraseCore_pending (s : State) : s.eraseCore.pending = Pending.empty := rfl
@[simp] theorem State.eraseCore_rom (s : State) : s.eraseCore.rom = s.rom := rfl
@[simp] theorem State.eraseCore_script (s : State) : s.eraseCore.script = s.script := rfl
@[simp] theorem State.eraseCore_received (s : State) : s.eraseCore.received = s.received := rfl
@[simp] theorem State.eraseCore_delay (s : State) : s.eraseCore.delay = 0 := rfl
@[simp] theorem State.eraseCore_draws (s : State) : s.eraseCore.draws = s.draws := rfl

@[simp] theorem State.resetEvent_cmd (s : State) : s.resetEvent.cmd = 0 := rfl
@[simp] theorem State.resetEvent_err (s : State) : s.resetEvent.err = false := rfl
@[simp] theorem State.resetEvent_overrun (s : State) : s.resetEvent.overrun = false := rfl
@[simp] theorem State.resetEvent_authValid (s : State) : s.resetEvent.authValid = false := rfl
@[simp] theorem State.resetEvent_authOk (s : State) : s.resetEvent.authOk = false := rfl
@[simp] theorem State.resetEvent_errcode (s : State) : s.resetEvent.errcode = .ok := rfl
@[simp] theorem State.resetEvent_outlen (s : State) : s.resetEvent.outlen = 0 := rfl
@[simp] theorem State.resetEvent_din0 (s : State) : s.resetEvent.din0 = 0 := rfl
@[simp] theorem State.resetEvent_din1 (s : State) : s.resetEvent.din1 = 0 := rfl
@[simp] theorem State.resetEvent_dout (s : State) : s.resetEvent.dout = 0 := rfl
@[simp] theorem State.resetEvent_prev (s : State) : s.resetEvent.prev = 0 := rfl
@[simp] theorem State.resetEvent_h (s : State) : s.resetEvent.h = 0 := rfl
@[simp] theorem State.resetEvent_j0 (s : State) : s.resetEvent.j0 = 0 := rfl
@[simp] theorem State.resetEvent_ctr (s : State) : s.resetEvent.ctr = 0 := rfl
@[simp] theorem State.resetEvent_acc (s : State) : s.resetEvent.acc = 0 := rfl
@[simp] theorem State.resetEvent_tag (s : State) : s.resetEvent.tag = 0 := rfl
@[simp] theorem State.resetEvent_len (s : State) : s.resetEvent.len = 0 := rfl
@[simp] theorem State.resetEvent_key (s : State) : s.resetEvent.key = Vector.replicate 64 0 := rfl
@[simp] theorem State.resetEvent_hash (s : State) : s.resetEvent.hash = HashState.fresh := rfl
@[simp] theorem State.resetEvent_hphase (s : State) : s.resetEvent.hphase = .absorbing := rfl
@[simp] theorem State.resetEvent_gphase (s : State) : s.resetEvent.gphase = .idle := rfl
@[simp] theorem State.resetEvent_pending (s : State) : s.resetEvent.pending = Pending.empty := rfl
@[simp] theorem State.resetEvent_rom (s : State) : s.resetEvent.rom = s.rom := rfl
@[simp] theorem State.resetEvent_script (s : State) : s.resetEvent.script = s.script := rfl
@[simp] theorem State.resetEvent_received (s : State) : s.resetEvent.received = s.received := rfl
@[simp] theorem State.resetEvent_delay (s : State) : s.resetEvent.delay = 0 := rfl
@[simp] theorem State.resetEvent_draws (s : State) : s.resetEvent.draws = s.draws := rfl

@[simp] theorem State.clearAll_cmd (s : State) : s.clearAll.cmd = s.cmd := rfl
@[simp] theorem State.clearAll_err (s : State) : s.clearAll.err = false := rfl
@[simp] theorem State.clearAll_overrun (s : State) : s.clearAll.overrun = false := rfl
@[simp] theorem State.clearAll_authValid (s : State) : s.clearAll.authValid = false := rfl
@[simp] theorem State.clearAll_authOk (s : State) : s.clearAll.authOk = false := rfl
@[simp] theorem State.clearAll_errcode (s : State) : s.clearAll.errcode = .ok := rfl
@[simp] theorem State.clearAll_outlen (s : State) : s.clearAll.outlen = 0 := rfl
@[simp] theorem State.clearAll_din0 (s : State) : s.clearAll.din0 = 0 := rfl
@[simp] theorem State.clearAll_din1 (s : State) : s.clearAll.din1 = 0 := rfl
@[simp] theorem State.clearAll_dout (s : State) : s.clearAll.dout = 0 := rfl
@[simp] theorem State.clearAll_prev (s : State) : s.clearAll.prev = 0 := rfl
@[simp] theorem State.clearAll_h (s : State) : s.clearAll.h = 0 := rfl
@[simp] theorem State.clearAll_j0 (s : State) : s.clearAll.j0 = 0 := rfl
@[simp] theorem State.clearAll_ctr (s : State) : s.clearAll.ctr = 0 := rfl
@[simp] theorem State.clearAll_acc (s : State) : s.clearAll.acc = 0 := rfl
@[simp] theorem State.clearAll_tag (s : State) : s.clearAll.tag = 0 := rfl
@[simp] theorem State.clearAll_len (s : State) : s.clearAll.len = 0 := rfl
@[simp] theorem State.clearAll_key (s : State) : s.clearAll.key = Vector.replicate 64 0 := rfl
@[simp] theorem State.clearAll_hash (s : State) : s.clearAll.hash = HashState.fresh := rfl
@[simp] theorem State.clearAll_hphase (s : State) : s.clearAll.hphase = .absorbing := rfl
@[simp] theorem State.clearAll_gphase (s : State) : s.clearAll.gphase = .idle := rfl
@[simp] theorem State.clearAll_pending (s : State) : s.clearAll.pending = Pending.empty := rfl
@[simp] theorem State.clearAll_rom (s : State) : s.clearAll.rom = s.rom := rfl
@[simp] theorem State.clearAll_script (s : State) : s.clearAll.script = s.script := rfl
@[simp] theorem State.clearAll_received (s : State) : s.clearAll.received = s.received := rfl
@[simp] theorem State.clearAll_delay (s : State) : s.clearAll.delay = 0 := rfl
@[simp] theorem State.clearAll_draws (s : State) : s.clearAll.draws = s.draws := rfl

@[simp] theorem State.resetWith_cmd (rom : Rom) : (State.resetWith rom).cmd = 0 := rfl
@[simp] theorem State.resetWith_err (rom : Rom) : (State.resetWith rom).err = false := rfl
@[simp] theorem State.resetWith_overrun (rom : Rom) : (State.resetWith rom).overrun = false := rfl
@[simp] theorem State.resetWith_authValid (rom : Rom) : (State.resetWith rom).authValid = false := rfl
@[simp] theorem State.resetWith_authOk (rom : Rom) : (State.resetWith rom).authOk = false := rfl
@[simp] theorem State.resetWith_errcode (rom : Rom) : (State.resetWith rom).errcode = .ok := rfl
@[simp] theorem State.resetWith_outlen (rom : Rom) : (State.resetWith rom).outlen = 0 := rfl
@[simp] theorem State.resetWith_din0 (rom : Rom) : (State.resetWith rom).din0 = 0 := rfl
@[simp] theorem State.resetWith_din1 (rom : Rom) : (State.resetWith rom).din1 = 0 := rfl
@[simp] theorem State.resetWith_dout (rom : Rom) : (State.resetWith rom).dout = 0 := rfl
@[simp] theorem State.resetWith_prev (rom : Rom) : (State.resetWith rom).prev = 0 := rfl
@[simp] theorem State.resetWith_h (rom : Rom) : (State.resetWith rom).h = 0 := rfl
@[simp] theorem State.resetWith_j0 (rom : Rom) : (State.resetWith rom).j0 = 0 := rfl
@[simp] theorem State.resetWith_ctr (rom : Rom) : (State.resetWith rom).ctr = 0 := rfl
@[simp] theorem State.resetWith_acc (rom : Rom) : (State.resetWith rom).acc = 0 := rfl
@[simp] theorem State.resetWith_tag (rom : Rom) : (State.resetWith rom).tag = 0 := rfl
@[simp] theorem State.resetWith_len (rom : Rom) : (State.resetWith rom).len = 0 := rfl
@[simp] theorem State.resetWith_key (rom : Rom) : (State.resetWith rom).key = Vector.replicate 64 0 := rfl
@[simp] theorem State.resetWith_hash (rom : Rom) : (State.resetWith rom).hash = HashState.fresh := rfl
@[simp] theorem State.resetWith_hphase (rom : Rom) : (State.resetWith rom).hphase = .absorbing := rfl
@[simp] theorem State.resetWith_gphase (rom : Rom) : (State.resetWith rom).gphase = .idle := rfl
@[simp] theorem State.resetWith_pending (rom : Rom) : (State.resetWith rom).pending = Pending.empty := rfl
@[simp] theorem State.resetWith_rom (rom : Rom) : (State.resetWith rom).rom = rom := rfl
@[simp] theorem State.resetWith_script (rom : Rom) : (State.resetWith rom).script = [] := rfl
@[simp] theorem State.resetWith_received (rom : Rom) : (State.resetWith rom).received = [] := rfl
@[simp] theorem State.resetWith_delay (rom : Rom) : (State.resetWith rom).delay = 0 := rfl
@[simp] theorem State.resetWith_draws (rom : Rom) : (State.resetWith rom).draws = 0 := rfl

end Sys2Proof.Machine
end

