-- ==== Sys2Proof/Laws/Ops.lean ====
section
/-! SUPPORT. What each shared operation of the handshake and the window can do, said once. -/

namespace Sys2Proof.Machine

/-- An access is defined exactly when it is 64-bit, aligned and inside the window (R64). -/
theorem accessProblem_eq_none (width off : Nat) :
    accessProblem width off = none ↔ width = 8 ∧ off % 8 = 0 ∧ off < 0x1000 := by
  unfold accessProblem
  split
  · simp_all
  · split
    · simp_all
    · split
      · simp_all
      · simp_all

/-- The end of a CORE step answers a next state exactly when the command did. -/
theorem finishCommand_next {r : Result} {t : State} (hr : finishCommand r = .next t) :
    ∃ u, r = .next u ∧ t = u.clearPending := by
  cases r with
  | next u => exact ⟨u, rfl, by simpa [finishCommand] using hr.symm⟩
  | fault e => cases hr
  | refused e => cases hr

/-- All a CORE step can do: the decoded command and the end of the step, or ILLEGAL_CMD and the end of the step (R254). -/
theorem coreStep_next {s t : State} (hs : coreStep s = .next t) :
    (∃ i u, decode s.pending.word = .cmd i ∧ exec i s = .next u ∧ t = u.clearPending) ∨
      (∃ why, decode s.pending.word = .illegal why ∧ t = (s.raiseError .illegalCmd).clearPending) := by
  unfold coreStep at hs
  split at hs
  · next i hd =>
    obtain ⟨u, hu, rfl⟩ := finishCommand_next hs
    exact .inl ⟨i, u, hd, hu, rfl⟩
  · next why hd =>
    obtain ⟨u, hu, rfl⟩ := finishCommand_next hs
    cases hu
    exact .inr ⟨why, hd, rfl⟩

/-- All a HOST write can do (R63). -/
theorem hostWrite_cases (s : State) (off : Nat) (v : Word) :
    (guarded (regAt off) = true ∧ busy s = true ∧ hostWrite s off v = s.noteOverrun) ∨
      ((guarded (regAt off) = false ∨ busy s = false) ∧ hostWrite s off v = writeReg s v (regAt off)) := by
  unfold hostWrite
  by_cases hg : guarded (regAt off) = true <;> by_cases hb : busy s = true
  · exact .inl ⟨hg, hb, by simp [hg, hb]⟩
  · exact .inr ⟨.inr (by simpa using hb), by simp [hb]⟩
  · exact .inr ⟨.inl (by simpa using hg), by simp [hg]⟩
  · exact .inr ⟨.inl (by simpa using hg), by simp [hg]⟩

/-- All one HOST operation can do. -/
theorem hostOp_next {s t : State} {op : HostOp} (hs : hostOp s op = .next t) :
    (∃ off, op = .rd 8 off ∧ off % 8 = 0 ∧ off < 0x1000 ∧ t = (s.receive (hostRead s off)).tick.popScript) ∨
      (∃ off v, op = .wr 8 off v ∧ off % 8 = 0 ∧ off < 0x1000 ∧ t = (hostWrite s.tick off v).popScript) ∨
      (op = .wait ∧ polledBusy s = true ∧ t = s.tick) ∨
      (op = .wait ∧ polledBusy s = false ∧ t = s.tick.popScript) ∨
      (op = .reset ∧ t = s.resetEvent.popScript) := by
  cases op with
  | rd width off =>
    simp only [hostOp] at hs
    split at hs
    · cases hs
    · next ha =>
      obtain ⟨rfl, ho, hw⟩ := (accessProblem_eq_none _ _).1 ha
      cases hs
      exact .inl ⟨off, rfl, ho, hw, rfl⟩
  | wr width off v =>
    simp only [hostOp] at hs
    split at hs
    · cases hs
    · next ha =>
      obtain ⟨rfl, ho, hw⟩ := (accessProblem_eq_none _ _).1 ha
      cases hs
      exact .inr (.inl ⟨off, v, rfl, ho, hw, rfl⟩)
  | wait =>
    simp only [hostOp] at hs
    split at hs
    · next hb => cases hs; exact .inr (.inr (.inl ⟨rfl, hb, rfl⟩))
    · next hb => cases hs; exact .inr (.inr (.inr (.inl ⟨rfl, by simpa using hb, rfl⟩)))
  | reset =>
    simp only [hostOp] at hs
    cases hs
    exact .inr (.inr (.inr (.inr ⟨rfl, rfl⟩)))

/-- All one step can do: a CORE step, one HOST operation, or nothing when both agents are idle. -/
theorem step_cases {s t : State} (hs : step s = .next t) :
    (coreMoves s = true ∧ coreStep s = .next t) ∨
      (coreMoves s = false ∧ ∃ op rest, s.script = op :: rest ∧ hostOp s op = .next t) ∨
      (coreMoves s = false ∧ s.script = [] ∧ t = s) := by
  unfold step machineStep at hs
  cases hm : coreMoves s with
  | true => exact .inl ⟨rfl, by simpa [hm] using hs⟩
  | false =>
    simp only [hm] at hs
    unfold hostStep at hs
    cases hsc : s.script with
    | nil => rw [hsc] at hs; cases hs; exact .inr (.inr ⟨rfl, rfl, rfl⟩)
    | cons op rest => rw [hsc] at hs; exact .inr (.inl ⟨rfl, op, rest, rfl, by simpa using hs⟩)

end Sys2Proof.Machine
end

