-- ==== Sys2Proof/Laws/PerInstr.lean ====
section
/-! SUPPORT. Laws stated for all commands, one lemma per command. EncodingFields: the encoded word holds the command's opcode in bits 7:0, its count in bits 12:8 and 0 in bits 63:13 (30_encoding.md R80 to R83, R89). -/

namespace Sys2Proof.Laws.EncodingFields

/-- The three fields of the encoded word of a command. -/
def Statement (i : Instr) : Prop :=
  opcField (encode i) = opcode i ∧ countField (encode i) = countOf i ∧ reservedField (encode i) = 0

theorem nop : Statement .nop := by
  unfold Statement
  decide

theorem clear : Statement .clear := by
  unfold Statement
  decide

theorem kshInit : Statement .kshInit := by
  unfold Statement
  decide

theorem kshAbsorb (n : BitVec 5) : Statement (.kshAbsorb n) := by
  revert n
  unfold Statement
  decide

theorem kshFinal : Statement .kshFinal := by
  unfold Statement
  decide

theorem kshLoadkey : Statement .kshLoadkey := by
  unfold Statement
  decide

theorem keyZero : Statement .keyZero := by
  unfold Statement
  decide

theorem blkEnc : Statement .blkEnc := by
  unfold Statement
  decide

theorem blkDec : Statement .blkDec := by
  unfold Statement
  decide

theorem gfMul : Statement .gfMul := by
  unfold Statement
  decide

theorem ghSeth : Statement .ghSeth := by
  unfold Statement
  decide

theorem ghLdh : Statement .ghLdh := by
  unfold Statement
  decide

theorem ghClr : Statement .ghClr := by
  unfold Statement
  decide

theorem ghUpd (n : BitVec 5) : Statement (.ghUpd n) := by
  revert n
  unfold Statement
  decide

theorem cbcSetiv : Statement .cbcSetiv := by
  unfold Statement
  decide

theorem cbcEnc : Statement .cbcEnc := by
  unfold Statement
  decide

theorem cbcEncf (n : BitVec 5) : Statement (.cbcEncf n) := by
  revert n
  unfold Statement
  decide

theorem cbcDec : Statement .cbcDec := by
  unfold Statement
  decide

theorem cbcDecf : Statement .cbcDecf := by
  unfold Statement
  decide

theorem fmtCbc : Statement .fmtCbc := by
  unfold Statement
  decide

theorem gcmInit : Statement .gcmInit := by
  unfold Statement
  decide

theorem gcmEnc (n : BitVec 5) : Statement (.gcmEnc n) := by
  revert n
  unfold Statement
  decide

theorem gcmDec (n : BitVec 5) : Statement (.gcmDec n) := by
  revert n
  unfold Statement
  decide

theorem gcmTag : Statement .gcmTag := by
  unfold Statement
  decide

theorem gcmVerify : Statement .gcmVerify := by
  unfold Statement
  decide

theorem fmtGcm : Statement .fmtGcm := by
  unfold Statement
  decide

theorem inc32 : Statement .inc32 := by
  unfold Statement
  decide

end Sys2Proof.Laws.EncodingFields
end

