-- ==== Sys2Proof/Tests/Slice0.lean ====
section
/-! SUPPORT. Tests: the well-formedness smoke test, a word of every command written out from spec/30_encoding.md R84 and R89, at most two behaviour tests a command with the results of spec/95_test_vectors.md, and a witness for the hypotheses of every statement that has some. -/

namespace Sys2Proof.Tests

open Sys2Proof.Machine

/-! One kernel evaluation at a time: in parallel each holds a thread and its stack, and together they pass the memory the check allows. -/

set_option Elab.async false

/-! Fixtures of 95_test_vectors.md section 0 -/

/-- A byte table written so that the kernel evaluates it. -/
def listTable (f : Nat → Byte) : Vector Byte 256 := ⟨((List.range 256).map f).toArray, by simp⟩

def idTable : Vector Byte 256 := listTable fun i => BitVec.ofNat 8 i

/-- ID_T: CT[j][i] = i. -/
def idT : CipherTables := #v[idTable, idTable, idTable, idTable, idTable, idTable, idTable, idTable]

/-- TOY_T's permutation P[m]. -/
def toyP (m : Fin 16) (v : BitVec 4) : BitVec 4 := BitVec.ofNat 4 (v.toNat * (2 * m.val + 1) + m.val)

/-- TOY_T's (hi_j, lo_j) = (2j+1, 2j). -/
def toyAssign (j : Fin 8) : Fin 16 × Fin 16 := (⟨2 * j.val + 1, by omega⟩, ⟨2 * j.val, by omega⟩)

/-- TOY_T. -/
def toyT : CipherTables := cipherTables toyP toyAssign

/-- TOY_S: HS[i] = (167·i + 13) mod 256. -/
def toyS : Vector Byte 256 := listTable fun i => BitVec.ofNat 8 (167 * i + 13)

/-- The machine after reset with ID_T and TOY_S and the default parameters. -/
def base : State := State.resetWith { ct := idT, hs := toyS, lanes := .stateRawXor, xorSrc := .checksum }

/-- Ki: KEY[i] = i. -/
def keyI : Schedule := ⟨((List.range 64).map (BitVec.ofNat 64)).toArray, by simp⟩

/-- The plaintext block inc. -/
def inc : Block := 0x000102030405060708090A0B0C0D0E0F

/-- K0: the schedule after reset and KEY_ZERO. -/
def key0 : Schedule := Vector.replicate 64 0

/-- The next state of a result, if there is one. -/
def nextOf : Result → Option State
  | .next s => some s
  | .fault _ => none
  | .refused _ => none

/-- base with a command word pending and its latency over. -/
def pend (w : Word) : State := { base with pending := { valid := true, word := w } }

/-- base with one HOST operation to come. -/
def hostAt (op : HostOp) : State := { base with script := [op] }

/-- base with a pending BLK_ENC that two more HOST accesses precede, and one HOST operation to come. -/
def busyAt (op : HostOp) : State := { base with script := [op], pending := { valid := true, word := 0x30 }, delay := 2 }

/-! With ID_T a lookup is the identity, so that E and D of the fixtures are cheap to evaluate -/

theorem lookup_idTable (i : Byte) : lookup idTable i = i := by
  simp [lookup, idTable, listTable]

/-- f with ID_T, without the table lookups. -/
def idF (x : Word) : Word :=
  rotl64
    (x.extractLsb' 56 8 ++ x.extractLsb' 48 8 ++ x.extractLsb' 40 8 ++ x.extractLsb' 32 8
      ++ x.extractLsb' 24 8 ++ x.extractLsb' 16 8 ++ x.extractLsb' 8 8 ++ x.extractLsb' 0 8 : BitVec 64)
    11

/-- One round with ID_T. -/
def idRound (ab : Word × Word) (k : Word × Word) : Word × Word :=
  (ab.1 ^^^ idF ((ab.2 ^^^ idF (ab.1 + k.1)) + k.2), ab.2 ^^^ idF (ab.1 + k.1))

/-- runRounds with ID_T. -/
def idRun (ks : List (Word × Word)) (v : Block) : Block :=
  let ab := ks.foldl idRound (hi64 v, lo64 v)
  pair ab.2 ab.1

theorem roundF_idT (x : Word) : roundF idT x = idF x := by
  have h : ∀ i, lookup idTable i = i := lookup_idTable
  show rotl64 (lookup idTable _ ++ lookup idTable _ ++ lookup idTable _ ++ lookup idTable _ ++ lookup idTable _
    ++ lookup idTable _ ++ lookup idTable _ ++ lookup idTable _) 11 = _
  simp only [h, idF]

theorem runRounds_idT (ks : List (Word × Word)) (v : Block) : runRounds idT ks v = idRun ks v := by
  have h : cipherRound idT = idRound := by funext ab k; simp [cipherRound, idRound, roundF_idT]
  simp [runRounds, idRun, h]

theorem encrypt_idT (k : Schedule) (v : Block) : encrypt idT k v = idRun (encKeys k) v := by
  simp [encrypt, runRounds_idT]

theorem decrypt_idT (k : Schedule) (v : Block) : decrypt idT k v = idRun (decKeys k) v := by
  simp [decrypt, runRounds_idT]

/-! 95_test_vectors.md 4.2, ID_T: E and D -/

theorem enc_inc : encrypt idT keyI inc = 0x97203F9A1F5B391D6F1F07ED257A2E64 := by
  rw [encrypt_idT]; decide +kernel

theorem dec_inc : decrypt idT keyI inc = 0x25E859B6A971D35F52DE8EDA9455B454 := by
  rw [decrypt_idT]; decide +kernel

theorem enc_zero : encrypt idT keyI 0 = 0x3D055F364E74E6C691F48426FDE76055 := by
  rw [encrypt_idT]; decide +kernel

theorem enc0_zero : encrypt idT key0 0 = 0 := by
  rw [encrypt_idT]; decide +kernel

theorem dec0_zero : decrypt idT key0 0 = 0 := by
  rw [decrypt_idT]; decide +kernel

/-- The keystream of 6.5. -/
theorem enc0_one : encrypt idT key0 1 = 0x00000501001100010020000000000000 := by
  rw [encrypt_idT]; decide +kernel

/-! Well-formedness: each check refuses a count outside its range (R84) -/

theorem test_kshAbsorb_refuses : ¬ (Instr.kshAbsorb 17).WellFormed := by decide
theorem test_ghUpd_refuses : ¬ (Instr.ghUpd 0).WellFormed ∧ ¬ (Instr.ghUpd 17).WellFormed := by decide
theorem test_cbcEncf_refuses : ¬ (Instr.cbcEncf 16).WellFormed := by decide
theorem test_gcmEnc_refuses : ¬ (Instr.gcmEnc 0).WellFormed ∧ ¬ (Instr.gcmEnc 17).WellFormed := by decide
theorem test_gcmDec_refuses : ¬ (Instr.gcmDec 0).WellFormed ∧ ¬ (Instr.gcmDec 17).WellFormed := by decide

/-! Decoding: a word of every command, OPC | N << 8 (R84, R89), and the illegal words of 7.1 -/

theorem test_decode_nop : decode 0x0000000000000000 = .cmd .nop := by decide
theorem test_decode_clear : decode 0x0000000000000001 = .cmd .clear := by decide
theorem test_decode_kshInit : decode 0x0000000000000010 = .cmd .kshInit := by decide
theorem test_decode_kshAbsorb : decode 0x0000000000001011 = .cmd (.kshAbsorb 16) := by decide
theorem test_decode_kshFinal : decode 0x0000000000000012 = .cmd .kshFinal := by decide
theorem test_decode_kshLoadkey : decode 0x0000000000000013 = .cmd .kshLoadkey := by decide
theorem test_decode_keyZero : decode 0x0000000000000020 = .cmd .keyZero := by decide
theorem test_decode_blkEnc : decode 0x0000000000000030 = .cmd .blkEnc := by decide
theorem test_decode_blkDec : decode 0x0000000000000031 = .cmd .blkDec := by decide
theorem test_decode_gfMul : decode 0x0000000000000040 = .cmd .gfMul := by decide
theorem test_decode_ghSeth : decode 0x0000000000000041 = .cmd .ghSeth := by decide
theorem test_decode_ghLdh : decode 0x0000000000000042 = .cmd .ghLdh := by decide
theorem test_decode_ghClr : decode 0x0000000000000043 = .cmd .ghClr := by decide
theorem test_decode_ghUpd : decode 0x0000000000000A44 = .cmd (.ghUpd 10) := by decide
theorem test_decode_cbcSetiv : decode 0x0000000000000050 = .cmd .cbcSetiv := by decide
theorem test_decode_cbcEnc : decode 0x0000000000000051 = .cmd .cbcEnc := by decide
theorem test_decode_cbcEncf : decode 0x0000000000000F52 = .cmd (.cbcEncf 15) := by decide
theorem test_decode_cbcDec : decode 0x0000000000000053 = .cmd .cbcDec := by decide
theorem test_decode_cbcDecf : decode 0x0000000000000054 = .cmd .cbcDecf := by decide
theorem test_decode_fmtCbc : decode 0x0000000000000055 = .cmd .fmtCbc := by decide
theorem test_decode_gcmInit : decode 0x0000000000000060 = .cmd .gcmInit := by decide
theorem test_decode_gcmEnc : decode 0x0000000000001061 = .cmd (.gcmEnc 16) := by decide
theorem test_decode_gcmDec : decode 0x0000000000000162 = .cmd (.gcmDec 1) := by decide
theorem test_decode_gcmTag : decode 0x0000000000000063 = .cmd .gcmTag := by decide
theorem test_decode_gcmVerify : decode 0x0000000000000064 = .cmd .gcmVerify := by decide
theorem test_decode_fmtGcm : decode 0x0000000000000065 = .cmd .fmtGcm := by decide
theorem test_decode_inc32 : decode 0x0000000000000066 = .cmd .inc32 := by decide
theorem test_illegal_count17 : decode 0x0000000000001111 = .illegal .countOutOfRange := by decide
theorem test_illegal_count0 : decode 0x0000000000000044 = .illegal .countOutOfRange := by decide
theorem test_illegal_encf16 : decode 0x0000000000001052 = .illegal .countOutOfRange := by decide
theorem test_illegal_f0Count : decode 0x0000000000000130 = .illegal .countInF0 := by decide
theorem test_illegal_bit13 : decode 0x0000000000002030 = .illegal .reservedBits := by decide
theorem test_illegal_bit63 : decode 0x8000000000000030 = .illegal .reservedBits := by decide
theorem test_illegal_opcode02 : decode 0x0000000000000002 = .illegal .unassignedOpcode := by decide
theorem test_illegal_opcode67 : decode 0x0000000000000067 = .illegal .unassignedOpcode := by decide

/-! The cipher tables, the round function of 4.1 -/

theorem test_toyT_entries :
    (lookup toyT[0] 0x12, lookup toyT[1] 0x12, lookup toyT[7] 0x12, lookup toyT[7] 0xFF) = (0x42, 0xAC, 0xE8, 0x01) := by
  decide +kernel

theorem test_roundF_toyT : roundF toyT 0x8000000000000000 = 0x92A3B4C5D6E7F481 := by decide +kernel

/-! Control -/

/-- R220: ERRCODE is cleared, ERR stays. -/
theorem test_nop :
    (nextOf (exec .nop { base with err := true, errcode := .gcmSeq })).map (fun t => (t.errcode, t.err)) = some (.ok, true) := rfl

/-- 7.4 row 10, 7.5. -/
theorem test_clear :
    (nextOf (exec .clear { base with cmd := 1, err := true, overrun := true, key := keyI, prev := 5, h := 7 })).map
      (fun t => (t.cmd, statusWord t, t.prev, t.h, decide (t.key = key0))) = some (1, 0, 0, 0, true) := by
  decide +kernel

/-! Hash and key: 2.1, 2.6 -/

theorem test_kshInit :
    (nextOf (exec .kshInit { base with hphase := .consumed, key := keyI })).map (fun t => (t.hphase, t.key)) =
      some (.absorbing, keyI) := rfl

theorem test_kshAbsorb_abc :
    (nextOf (exec (.kshAbsorb 3) { base with din0 := 0x61626300000000000000000000000000 })).map
      (fun t => ((t.hash.chk.toList.take 4, t.hash.fb), (t.hash.buf.toList.drop 512).take 4,
        (t.hash.buf.toList.drop 1024).take 4, statusWord t)) =
      some (([84, 71, 137, 0], 137), [0x61, 0x62, 0x63, 0], [0x61, 0x62, 0x63, 0], 0x300000) := by
  decide +kernel

theorem test_kshAbsorb_final :
    (nextOf (exec (.kshAbsorb 1) { base with hphase := .final })).map (fun t => (statusWord t, t.hash.cur)) =
      some (0x10202, 0) := by
  decide +kernel

/-- The first bytes of a pass over zeros follow the recurrence of 2.3's row of zeros: 13, 136, 197 (R104). -/
theorem test_foldPass : foldPass toyS 0 [0, 0, 0] = (197, [13, 136, 197]) := by decide +kernel

theorem test_kshFinal : (nextOf (exec .kshFinal base)).map (fun t => (t.hphase, t.key)) = some (.final, key0) := rfl

theorem test_kshFinal_final :
    (nextOf (exec .kshFinal { base with hphase := .final })).map statusWord = some 0x10202 := by
  decide +kernel

/-- BE64 of bytes 8..15 and 504..511 of the digest (R111). -/
theorem test_scheduleOf :
    (let k := scheduleOf ((List.range 512).map (BitVec.ofNat 8)); (k[1], k[63])) = (0x08090A0B0C0D0E0F, 0xF8F9FAFBFCFDFEFF) := by
  decide +kernel

theorem test_kshLoadkey :
    (nextOf (exec .kshLoadkey { base with hphase := .final, hash := { HashState.fresh with fb := 9 } })).map
      (fun t => (t.hphase, t.hash)) = some (.consumed, HashState.fresh) := rfl

theorem test_kshLoadkey_reset : (nextOf (exec .kshLoadkey base)).map statusWord = some 0x202 := by decide +kernel

theorem test_keyZero : (nextOf (exec .keyZero { base with key := keyI })).map (·.key) = some key0 := rfl

/-! Cipher commands: 4.4 and 4.2 -/

theorem test_blkEnc :
    (nextOf (exec .blkEnc { base with key := keyI, din0 := inc })).map (fun t => (t.dout, t.outlen)) =
      some (0x97203F9A1F5B391D6F1F07ED257A2E64, 16) := by
  show some (encrypt idT keyI inc, (16 : BitVec 5)) = _
  rw [enc_inc]

theorem test_blkDec :
    (nextOf (exec .blkDec { base with key := keyI, din0 := inc })).map (fun t => (t.dout, t.outlen)) =
      some (0x25E859B6A971D35F52DE8EDA9455B454, 16) := by
  show some (decrypt idT keyI inc, (16 : BitVec 5)) = _
  rw [dec_inc]

/-! GF and GHASH: section 3 -/

theorem test_gfMul :
    (nextOf (exec .gfMul { base with din0 := 1, din1 := 1 })).map (fun t => (t.dout, t.outlen)) =
      some (0xE6080000000000000000000000000003, 16) := by
  decide +kernel

theorem test_gfMul_gcm :
    (nextOf (exec .gfMul { base with din0 := 0x66E94BD4EF8A2C3B884CFA59CA342B2E, din1 := 0x0388DACE60B6A392F328C2B971B2FE78 })).map (·.dout) =
      some 0x5E2EC746917062882C85B0685353DEB7 := by
  decide +kernel

theorem test_ghSeth :
    (nextOf (exec .ghSeth { base with key := keyI, din0 := inc })).map (fun t => (t.h, t.dout)) =
      some (0x3D055F364E74E6C691F48426FDE76055, 0) := by
  show some (encrypt idT keyI 0, (0 : Block)) = _
  rw [enc_zero]

theorem test_ghLdh : (nextOf (exec .ghLdh { base with din0 := inc })).map (·.h) = some inc := rfl

theorem test_ghClr : (nextOf (exec .ghClr { base with acc := inc, h := 7 })).map (fun t => (t.acc, t.h)) = some (0, 7) := rfl

theorem test_ghUpd :
    (nextOf (exec (.ghUpd 4) { base with h := 0x66E94BD4EF8A2C3B884CFA59CA342B2E, din0 := 0xAABBCCDD112233445566778899AABBCC })).map (·.acc) =
      some 0xEB28B6D36BC56CB489DCA83FE5D0938E := by
  decide +kernel

theorem test_ghUpd_lengths :
    (nextOf (exec (.ghUpd 16)
      { base with h := 0x66E94BD4EF8A2C3B884CFA59CA342B2E, acc := 0x5E2EC746917062882C85B0685353DEB7, din0 := 0x80 })).map (·.acc) =
      some 0xF38CBB1AD69223DCC3457AE5B6B0F885 := by
  decide +kernel

/-! CBC: 5.1, 5.2, 5.4, 5.5 -/

theorem test_cbcSetiv : (nextOf (exec .cbcSetiv { base with din0 := inc })).map (·.prev) = some inc := rfl

/-- C = E(K, DIN0 ⊕ PREV) and PREV <- C (R173), with DIN0 ⊕ PREV = inc. -/
theorem test_cbcEnc :
    (nextOf (exec .cbcEnc { base with key := keyI, din0 := inc ^^^ 0xFF, prev := 0xFF })).map (fun t => (t.dout, t.prev)) =
      some (0x97203F9A1F5B391D6F1F07ED257A2E64, 0x97203F9A1F5B391D6F1F07ED257A2E64) := by
  show some (encrypt idT keyI (inc ^^^ 0xFF ^^^ 0xFF), encrypt idT keyI (inc ^^^ 0xFF ^^^ 0xFF)) = _
  rw [show inc ^^^ 0xFF ^^^ 0xFF = inc from rfl, enc_inc]

/-- 5.2: E(K0, 16 × 0x10); byte 0 of DIN0 is ignored. -/
theorem test_cbcEncf_0 :
    (nextOf (exec (.cbcEncf 0) { base with din0 := 0xAA000000000000000000000000000000 })).map (fun t => (t.dout, t.outlen)) =
      some (0x43434343434343435353535353535353, 16) := by
  show some (encrypt idT key0 _, (16 : BitVec 5)) = _
  rw [encrypt_idT]; decide +kernel

/-- 5.2: E(K0, 15 × 0xFF ‖ 0x01). -/
theorem test_cbcEncf_15 :
    (nextOf (exec (.cbcEncf 15) { base with din0 := 0xFFFFFFFFFFFFFFFFFFFFFFFFFFFFFFFF })).map (·.prev) =
      some 0xFFFCF901F0E1FF011FC0000000000000 := by
  show some (encrypt idT key0 _) = _
  rw [encrypt_idT]; decide +kernel

/-- P = D(K, C) ⊕ PREV and PREV <- C (R175). -/
theorem test_cbcDec :
    (nextOf (exec .cbcDec { base with key := keyI, din0 := inc, prev := 1 })).map (fun t => (t.dout, t.prev)) =
      some (0x25E859B6A971D35F52DE8EDA9455B455, inc) := by
  show some (decrypt idT keyI inc ^^^ 1, inc) = _
  rw [dec_inc]; rfl

/-- 5.4: OK, OUTLEN 13. -/
theorem test_cbcDecf :
    (nextOf (exec .cbcDecf { base with prev := 0x03030303 })).map (fun t => (statusWord t, t.dout)) =
      some (0x0000000D00000000, 0x00000000000000000000000003000000) := by
  have h : decrypt base.rom.ct base.key base.din0 ^^^ 0x03030303 = 0x03030303 := by
    show decrypt idT key0 0 ^^^ 0x03030303 = _
    rw [dec0_zero]; rfl
  simp only [exec, execCbcDecf, h]
  decide +kernel

/-- 5.4: Q[13] = 0x02 is not the pad byte; PREV is kept. -/
theorem test_cbcDecf_bad :
    (nextOf (exec .cbcDecf { base with prev := 0x020303 })).map (fun t => (statusWord t, t.dout, t.prev)) =
      some (0x302, 0, 0x020303) := by
  have h : decrypt base.rom.ct base.key base.din0 ^^^ 0x020303 = 0x020303 := by
    show decrypt idT key0 0 ^^^ 0x020303 = _
    rw [dec0_zero]; rfl
  simp only [exec, execCbcDecf, h]
  decide +kernel

theorem test_padValid :
    [0x00, 0x11, 0x03030303, 0x10101010101010101010101010101010, 0x01].map padValid = [false, false, true, true, true] := by
  decide

theorem test_fmtCbc :
    [47, 48, 49, 63, 64, 65, 80, 0xFFFFFFFFFFFFFFF0].map
        (fun n => (nextOf (exec .fmtCbc { base with din0 := n })).map fun t => (t.errcode, t.dout)) =
      [some (.formatSize, 0), some (.formatSize, 0), some (.formatSize, 0), some (.formatSize, 0), some (.ok, 0x10),
        some (.formatSize, 0), some (.ok, 0x20), some (.ok, 0xFFFFFFFFFFFFFFC0)] := by
  decide +kernel

/-! GCM: 6.1, 6.4, 6.5, 7.3 -/

theorem test_gcmInit :
    (nextOf (exec .gcmInit { base with acc := 5, len := 9, tag := 3 })).map
        (fun t => ((t.h, t.j0, t.ctr), (t.acc, t.len, t.tag), t.gphase)) =
      some ((0, 0, 1), (0, 0, 0), .opened) := by
  have h : encrypt base.rom.ct base.key 0 = 0 := enc0_zero
  simp only [exec, execGcmInit, h]
  decide +kernel

theorem test_gcmEnc :
    (nextOf (exec (.gcmEnc 16) { base with gphase := .opened, ctr := 1, din0 := inc })).map
        (fun t => ((t.dout, t.outlen), (t.acc, t.ctr, t.len), t.gphase)) =
      some ((0x000107020414060608290A0B0C0D0E0F, 16), (0, 2, 16), .opened) := by
  have h : encrypt base.rom.ct base.key 1 = 0x00000501001100010020000000000000 := enc0_one
  simp only [exec, execGcmEnc, h]
  decide +kernel

/-- The same keystream over four bytes; the partial block closes the message (R201). -/
theorem test_gcmEnc_partial :
    (nextOf (exec (.gcmEnc 4) { base with gphase := .opened, ctr := 1, din0 := inc })).map
        (fun t => ((t.dout, t.outlen), t.len, t.gphase)) =
      some ((0x00010702000000000000000000000000, 4), 4, .closed) := by
  have h : encrypt base.rom.ct base.key 1 = 0x00000501001100010020000000000000 := enc0_one
  simp only [exec, execGcmEnc, h]
  decide +kernel

/-- The ciphertext enters ACC: with H the identity and ACC = 0, ACC is the ciphertext (R202). -/
theorem test_gcmDec :
    (nextOf (exec (.gcmDec 4)
        { base with gphase := .opened, ctr := 1, h := 0x80000000000000000000000000000000, din0 := 0x00010702FFFFFFFFFFFFFFFFFFFFFFFF })).map
        (fun t => ((t.dout, t.acc), t.outlen, t.gphase)) =
      some ((0x00010203000000000000000000000000, 0x00010702000000000000000000000000), 4, .closed) := by
  have h : encrypt base.rom.ct base.key 1 = 0x00000501001100010020000000000000 := enc0_one
  simp only [exec, execGcmDec, h]
  decide +kernel

theorem test_gcmDec_idle : (nextOf (exec (.gcmDec 4) base)).map statusWord = some 0x402 := by decide +kernel

/-- The lengths block of 16 bytes (section 3) with E(K0, 0) = 0. -/
theorem test_gcmTag :
    (nextOf (exec .gcmTag
        { base with gphase := .closed, len := 16, h := 0x66E94BD4EF8A2C3B884CFA59CA342B2E, acc := 0x5E2EC746917062882C85B0685353DEB7 })).map
        (fun t => (t.tag, t.dout, statusWord t)) =
      some (0xF38CBB1AD69223DCC3457AE5B6B0F885, 0xF38CBB1AD69223DCC3457AE5B6B0F885, 0x00000010000C0000) := by
  have h : encrypt base.rom.ct base.key base.j0 = 0 := enc0_zero
  simp only [exec, execGcmTag, h]
  decide +kernel

theorem test_gcmVerify :
    [inc, inc ^^^ 1].map (fun v => (nextOf (exec .gcmVerify
        { base with gphase := .done, tag := inc, din0 := v, outlen := 16 })).map statusWord) =
      [some 0x00000010000C0018, some 0x00000010000C0008] := by
  decide +kernel

theorem test_gcmVerify_open :
    (nextOf (exec .gcmVerify { base with gphase := .opened })).map statusWord = some 0x40402 := by
  decide +kernel

theorem test_fmtGcm :
    [31, 32, 52, 0xFFFFFFFFFFFFFFFF].map
        (fun n => (nextOf (exec .fmtGcm { base with din0 := n })).map fun t => (t.errcode, t.dout)) =
      [some (.formatSize, 0), some (.ok, 0), some (.ok, 0x14), some (.ok, 0xFFFFFFFFFFFFFFDF)] := by
  decide +kernel

theorem test_inc32 :
    [0x112233445566778899AABBCCFFFFFFFF, 0x0000000000000000000000007FFFFFFF].map
        (fun v => (nextOf (exec .inc32 { base with din0 := v })).map (·.dout)) =
      [some 0x112233445566778899AABBCC00000000, some 0x80000000] := by
  decide +kernel

/-! The handshake and the step: 7.2, 7.4 -/

/-- 7.4 rows 1 to 7: three dropped writes, OVERRUN, two ignored writes. -/
theorem test_overrun :
    let s0 := { base with key := keyI, din0 := inc }
    let s := [(0x018, 5), (0x100, 7), (0x000, 0x31), (0x008, 0), (0x0A8, 1)].foldl (fun s a => hostWrite s a.1 a.2) (hostWrite s0 0x000 0x30)
    (s.din0, s.key[0], s.cmd, s.pending.word, s.overrun, (statusWord s).toNat) = (inc, 0, 0x30, 0x30, true, 5) := by
  decide +kernel

/-- 7.2: ILLEGAL_CMD before GCM_SEQ. -/
theorem test_priority : (nextOf (step (pend 0x61))).map statusWord = some 0x102 := by decide +kernel

theorem test_fetch_inc32 :
    (nextOf (step ({ base with din0 := 0xFFFFFFFF }.withFetchWord 64 0x66))).map (fun t => (t.dout, statusWord t)) =
      some (0, 0x0000001000000000) := by
  decide +kernel

theorem test_decodeTableWord : decodeTableWord 64 0x1044 = some (.ghUpd 16) ∧ decodeTableWord 64 0x1144 = none := by decide

/-! Witnesses: concrete states and operands that meet the hypotheses of a statement, each clause at a boundary value -/

theorem test_witness_DecodeOfEncode :
    ∀ i ∈ [Instr.kshAbsorb 0, .kshAbsorb 16, .ghUpd 1, .ghUpd 16, .cbcEncf 0, .cbcEncf 15, .gcmEnc 1, .gcmEnc 16, .gcmDec 1, .gcmDec 16, .inc32],
      i.WellFormed := by
  decide

theorem test_witness_EncodeOfDecode : decode 0x1062 = .cmd (.gcmDec 16) ∧ decode 0x66 = .cmd .inc32 := by decide

/-- A word is a legal command. -/
def isCommand (w : Word) : Bool :=
  match decode w with
  | .cmd _ => true
  | .illegal _ => false

theorem isCommand_iff (w : Word) : isCommand w = true ↔ ∃ i, decode w = .cmd i := by
  unfold isCommand
  cases decode w <;> simp

/-- Both ends of every range of R86, and legal neighbours. -/
theorem test_witness_IllegalWordsRaiseIllegalCmd :
    (pend 0x1111).coreDue ∧ (pend 0x1011).coreDue
      ∧ ([0x02, 0x0F, 0x14, 0x1F, 0x21, 0x2F, 0x32, 0x3F, 0x45, 0x4F, 0x56, 0x5F, 0x67, 0xFF, 0x1111, 0x1F11, 0x44, 0x1144, 0x1F44,
          0x61, 0x1161, 0x62, 0x1F62, 0x1052, 0x1F52, 0x101, 0x1F66, 0x2000, 0x8000000000000000].all fun w => !isCommand w) = true
      ∧ ([0x01, 0x10, 0x13, 0x20, 0x30, 0x31, 0x40, 0x144, 0x50, 0xF52, 0x55, 0x60, 0x1061, 0x66].all isCommand) = true :=
  ⟨⟨rfl, .inl rfl⟩, ⟨rfl, .inl rfl⟩, by decide, by decide⟩

theorem test_witness_StepRunsTheDecodedCommand :
    (pend 0x50).coreDue ∧ decode (pend 0x50).pending.word = .cmd .cbcSetiv ∧ ∃ t, exec .cbcSetiv (pend 0x50) = .next t :=
  ⟨⟨rfl, .inl rfl⟩, by decide, _, rfl⟩

theorem hostAt_due (op : HostOp) : (hostAt op).hostDue op [] := ⟨by simp [State.coreDue, hostAt, base, State.resetWith, Pending.empty], rfl⟩

theorem busyAt_due (op : HostOp) : (busyAt op).hostDue op [] := ⟨by simp [State.coreDue, busyAt], rfl⟩

theorem test_witness_StepTakesTheHostOperation :
    (hostAt (.rd 8 0)).hostDue (.rd 8 0) [] ∧ (busyAt (.rd 8 0xFF8)).hostDue (.rd 8 0xFF8) []
      ∧ (hostAt (.wr 8 0 1)).hostDue (.wr 8 0 1) [] ∧ (busyAt (.wr 8 0xFF8 1)).hostDue (.wr 8 0xFF8 1) []
      ∧ (busyAt .wait).hostDue .wait [] ∧ (busyAt .wait).pending.valid = true
      ∧ (hostAt .wait).hostDue .wait [] ∧ (hostAt .wait).pending.valid = false ∧ (busyAt .reset).hostDue .reset [] :=
  ⟨hostAt_due _, busyAt_due _, hostAt_due _, busyAt_due _, busyAt_due _, rfl, hostAt_due _, rfl, busyAt_due _⟩

/-- Each kind of undefined access is due somewhere and refused by its name; the last defined access is due and not refused. -/
theorem test_witness_StepStopsOnlyAtUndefinedAccess :
    step (hostAt (.rd 4 0)) = .refused .accessWidth ∧ step (hostAt (.wr 8 4 0)) = .refused .accessMisaligned
      ∧ step (busyAt (.rd 8 0x1000)) = .refused .accessOutsideWindow ∧ (∃ t, step (hostAt (.wr 8 0xFF8 0)) = .next t)
      ∧ (hostAt (.rd 4 0)).hostDue (.rd 4 0) [] :=
  ⟨rfl, rfl, rfl, ⟨_, rfl⟩, hostAt_due _⟩

theorem test_witness_BusyClearsWithinTheLatency :
    (busyAt (.wr 8 0xFF8 0)).pending.valid = true ∧ (busyAt (.wr 8 0xFF8 0)).scriptDefined = true := by decide

theorem test_witness_HostWriteCases :
    (pend 0).pending.valid = true ∧ base.pending.valid = false
      ∧ ∀ off ∈ [0x008, 0x030, 0x0A0, 0x0A8, 0x0F8, 0x300, 0xFF8],
        off % 8 = 0 ∧ off ∉ [0x000, 0x010, 0x018, 0x020, 0x028] ∧ ∀ i : Fin 64, off ≠ 0x100 + 8 * i.val := by
  refine ⟨rfl, rfl, ?_⟩
  decide

theorem test_witness_HostReadMap :
    ∀ off ∈ [0x0A8, 0x0F8, 0x300, 0xFF8], off % 8 = 0 ∧ ((0x0A8 ≤ off ∧ off ≤ 0x0F8) ∨ (0x300 ≤ off ∧ off ≤ 0xFF8)) := by decide

theorem test_witness_KshAbsorbCompletes : (0 : BitVec 5).toNat ≤ 16 ∧ (16 : BitVec 5).toNat ≤ 16 ∧ base.hphase = .absorbing := by decide

theorem test_witness_KshFinalCompletes :
    base.hphase = .absorbing ∧ base.hash.cur.toNat ≤ 511
      ∧ { base with hash := { HashState.fresh with cur := 511 } }.hash.cur.toNat ≤ 511 := by decide

theorem test_witness_KshLoadkeyCompletes : { base with hphase := .final }.hphase = .final := rfl

theorem test_witness_HashPhaseErrors :
    { base with hphase := .final }.hphase ≠ .absorbing ∧ { base with hphase := .consumed }.hphase ≠ .absorbing
      ∧ base.hphase ≠ .final ∧ (0 : BitVec 5).toNat ≤ 16 ∧ (16 : BitVec 5).toNat ≤ 16 := by decide

theorem test_witness_AbsorbByteWrites :
    HashState.fresh.cur.toNat = 0 ∧ { HashState.fresh with cur := 511 }.cur.toNat = 511 := by decide

theorem test_witness_ScheduleIgnoresChunking :
    ∀ c ∈ [((0 : Block), (0 : BitVec 5)), (inc, 16), (inc, 3)], c.2.toNat ≤ 16 := by simp

theorem test_witness_GhUpdCompletes :
    1 ≤ (1 : BitVec 5).toNat ∧ (1 : BitVec 5).toNat ≤ 16 ∧ 1 ≤ (16 : BitVec 5).toNat ∧ (16 : BitVec 5).toNat ≤ 16 := by decide

theorem test_witness_PartialBlocksIgnoreTheRest :
    Instr.ghUpd 4 ∈ [Instr.kshAbsorb 4, .ghUpd 4, .cbcEncf 4, .gcmEnc 4, .gcmDec 4]
      ∧ (∀ j, j < (4 : BitVec 5).toNat → blockByte 0x000102030000000000000000000000FF j = blockByte { base with din0 := inc }.din0 j)
      ∧ ∃ t, exec (.ghUpd 4) { base with din0 := inc } = .next t :=
  ⟨by simp, by decide +kernel, _, rfl⟩

theorem test_witness_CbcEncfCompletes : (0 : BitVec 5).toNat ≤ 15 ∧ (15 : BitVec 5).toNat ≤ 15 := by decide

/-- With K0 and DIN0 = 0 the recovered block is PREV; pad bytes 1 and 16 are valid, 0 and 17 are not (5.4). -/
theorem test_witness_CbcDecfChecksThePadding :
    let padOk (v : Block) : Prop :=
      1 ≤ (blockByte v 15).toNat ∧ (blockByte v 15).toNat ≤ 16
        ∧ ∀ j, j < 16 → 16 - (blockByte v 15).toNat ≤ j → blockByte v j = blockByte v 15
    (∀ v, decrypt base.rom.ct base.key base.din0 ^^^ { base with prev := v }.prev = v)
      ∧ padOk 0x01 ∧ padOk 0x10101010101010101010101010101010 ∧ ¬ padOk 0x00 ∧ ¬ padOk 0x11 := by
  refine ⟨fun v => ?_, by decide, by decide, by decide, by decide⟩
  show decrypt idT key0 0 ^^^ v = v
  rw [dec0_zero]
  simp

/-- Sizes on both sides of every clause (5.5, 6.4). -/
theorem test_witness_FormatCommandsCheckTheSize :
    (∀ size ∈ [63, 65], size < 64 ∨ (size - 48) % 16 ≠ 0) ∧ (∀ size ∈ [64, 80], ¬ (size < 64 ∨ (size - 48) % 16 ≠ 0))
      ∧ (lo64 { base with din0 := 64 }.din0).toNat = 64 ∧ (lo64 { base with din0 := 31 }.din0).toNat < 32
      ∧ ¬ (lo64 { base with din0 := 32 }.din0).toNat < 32 := by decide

/-- One message for each outcome: the recovered last block is the IV. -/
theorem test_witness_CbcCommandsDecryptTheMessage :
    (∀ iv, (cbcUnchain base.rom.ct base.key iv ([] ++ [0])).getLastD 0 = iv) ∧ padValid 1 = true ∧ padValid 0 = false := by
  refine ⟨fun iv => ?_, by decide, by decide⟩
  show decrypt idT key0 0 ^^^ iv = iv
  rw [dec0_zero]
  simp

theorem test_witness_GcmDataCompletes :
    { base with gphase := .opened }.gphase = .opened ∧ 1 ≤ (1 : BitVec 5).toNat ∧ (16 : BitVec 5).toNat ≤ 16 := by decide

theorem test_witness_GcmTagCompletes :
    { base with gphase := .opened }.gphase = .opened ∧ { base with gphase := .closed }.gphase = .closed := by decide

theorem test_witness_GcmVerifyCompletes : { base with gphase := .done }.gphase = .done := rfl

theorem test_witness_GcmPhaseErrors :
    (∀ g ∈ [GPhase.idle, .closed, .done], { base with gphase := g }.gphase ≠ .opened) ∧ base.gphase = .idle
      ∧ { base with gphase := .done }.gphase = .done ∧ ∀ g ∈ [GPhase.idle, .opened, .closed], { base with gphase := g }.gphase ≠ .done := by
  decide

theorem test_witness_ErrorCompletionChangesNothingElse :
    (pend 0x64).coreDue ∧ ∃ t, step (pend 0x64) = .next t ∧ t.errcode ≠ .ok :=
  ⟨⟨rfl, .inl rfl⟩, _, rfl, by decide⟩

theorem test_witness_StickyBitsAreSticky :
    (∃ t, step { pend 0x00 with err := true, overrun := true } = .next t ∧ t.errcode = .ok) ∧ (pend 0x00).coreDue
      ∧ (∃ t, step (pend 0x64) = .next t ∧ t.errcode ≠ .ok) ∧ decode 0x01 = .cmd .clear :=
  ⟨⟨_, rfl, rfl⟩, ⟨rfl, .inl rfl⟩, ⟨_, rfl, by decide⟩, by decide⟩

theorem test_witness_CommandsWriteOnlyTheirRegisters :
    (∃ t, exec .ghLdh { base with din0 := inc } = .next t ∧ t.h ≠ base.h) ∧ Instr.ghLdh ≠ .clear :=
  ⟨⟨_, rfl, by decide⟩, by decide⟩

theorem test_witness_PhaseTransitions :
    (∃ t, exec .kshFinal base = .next t ∧ t.hphase ≠ base.hphase) ∧ ∃ t, exec .gcmInit base = .next t ∧ t.gphase ≠ base.gphase :=
  ⟨⟨_, rfl, by decide⟩, ⟨_, rfl, by decide⟩⟩

theorem test_witness_RomNeverChanges : ∃ t, step (hostAt .reset) = .next t := ⟨_, rfl⟩

theorem test_witness_PendingCommandIsShieldedFromTheHost :
    (busyAt (.wr 8 0x018 5)).pending.valid = true ∧ HostOp.wr 8 0x018 5 ≠ .reset
      ∧ ∃ u, hostOp (busyAt (.wr 8 0x018 5)) (.wr 8 0x018 5) = .next u :=
  ⟨rfl, by decide, _, rfl⟩

theorem test_witness_StepKeepsTheInvariant : (pend 0x00).Inv ∧ ∃ t, step (pend 0x00) = .next t := by
  refine ⟨⟨⟨?_, ?_, ?_⟩, ⟨?_, ?_⟩, ⟨?_, ?_, ?_, ?_⟩, ⟨?_, ?_, ?_, ?_, ?_⟩⟩, _, rfl⟩ <;> decide +kernel

end Sys2Proof.Tests
end

section
/-! What one command can do to the state, said once as a relation, and the relation held to `exec`. -/

namespace Sys2Proof.Machine

/-- What the meaning of a command may leave behind, a constructor per shape of completion. A value that only the data
path fixes stands as a variable, with the facts about it that hold whatever the data. -/
inductive CommandEffect (s : State) : Instr → State → Prop where
  /-- Error completion (R231). -/
  | error (i : Instr) (code : ErrCode) (hcode : code ≠ .ok) : CommandEffect s i (s.raiseError code)
  /-- R220. -/
  | nop : CommandEffect s .nop s.complete
  /-- R221. -/
  | clear : CommandEffect s .clear s.clearAll
  /-- R112. -/
  | hashInit : CommandEffect s .kshInit { s with hash := HashState.fresh, hphase := .absorbing }.complete
  /-- R113. -/
  | hashAbsorb (n : BitVec 5) (bs : List Byte) (hp : s.hphase = .absorbing) :
      CommandEffect s (.kshAbsorb n) { s with hash := absorb s.rom s.hash bs }.complete
  /-- R114. -/
  | hashFinal (hp : s.hphase = .absorbing) :
      CommandEffect s .kshFinal { s with hash := finalize s.rom s.hash, hphase := .final }.complete
  /-- R115. -/
  | loadKey (k : Schedule) (hp : s.hphase = .final) :
      CommandEffect s .kshLoadkey { s with key := k, hash := HashState.fresh, hphase := .consumed }.complete
  /-- R116. -/
  | zeroKey : CommandEffect s .keyZero { s with key := Vector.replicate 64 0 }.complete
  /-- A whole block in DOUT and nothing else (R138, R139, R154, R177, R205, R207). -/
  | block (i : Instr) (v : Block) (hi : i ∈ [Instr.blkEnc, .blkDec, .gfMul, .fmtCbc, .fmtGcm, .inc32]) :
      CommandEffect s i (s.writeDout v 16).complete
  /-- R172. -/
  | setIv : CommandEffect s .cbcSetiv { s with prev := s.din0 }.complete
  /-- A whole block in DOUT and the chaining value in PREV (R173 to R175). -/
  | chained (i : Instr) (p v : Block) (hi : i ∈ [Instr.cbcEnc, .cbcDec] ∨ ∃ n, i = .cbcEncf n) :
      CommandEffect s i ({ s with prev := p }.writeDout v 16).complete
  /-- The final block with valid padding (R176). -/
  | released (n : BitVec 5) (v : Block) (hn : n.toNat ≤ 16) (hv : maskN n.toNat v = v) :
      CommandEffect s .cbcDecf ({ s with prev := s.din0 }.writeDout v n).complete
  /-- The final block withheld (R176, R235). -/
  | withheld : CommandEffect s .cbcDecf ((s.writeDout 0 0).raiseError .badPadding)
  /-- R155, R156. -/
  | subkey (i : Instr) (v : Block) (hi : i ∈ [Instr.ghSeth, .ghLdh]) : CommandEffect s i { s with h := v }.complete
  /-- R157, R158. -/
  | accumulate (i : Instr) (v : Block) (hi : i = .ghClr ∨ ∃ n, i = .ghUpd n) :
      CommandEffect s i { s with acc := v }.complete
  /-- R200. -/
  | gcmInit (h j0 ctr : Block) :
      CommandEffect s .gcmInit
        { s with
          h := h, j0 := j0, ctr := ctr, acc := 0, len := 0, tag := 0
          authValid := false, authOk := false, gphase := .opened }.complete
  /-- R201, R202. -/
  | gcmData (i : Instr) (n : BitVec 5) (c v : Block) (hi : i ∈ [Instr.gcmEnc n, .gcmDec n])
      (hg : s.gphase = .opened) (hn : n.toNat ≤ 16) (hv : maskN n.toNat v = v) :
      CommandEffect s i ((s.gcmAdvance c n).writeDout v n).complete
  /-- R203. -/
  | gcmTag (a t : Block) (hg : s.gphase = .opened ∨ s.gphase = .closed) :
      CommandEffect s .gcmTag ({ s with acc := a, tag := t, gphase := .done }.writeDout t 16).complete
  /-- R204. -/
  | gcmVerify (ok : Bool) (hg : s.gphase = .done) :
      CommandEffect s .gcmVerify { s with authOk := ok, authValid := true }.complete

section Commands

variable {s t : State} {n : BitVec 5}

/-- A guard either raises its error or lets the rest of the meaning decide. -/
theorem effect_of_guard {i : Instr} {code : ErrCode} {c : Prop} {_ : Decidable c} {r : Result}
    (he : (if c then .next (s.raiseError code) else r) = .next t) (hcode : code ≠ .ok)
    (hr : ¬ c → r = .next t → CommandEffect s i t) : CommandEffect s i t := by
  split at he
  · cases he
    exact .error i code hcode
  · next hc => exact hr hc he

theorem execKshAbsorb_effect (he : execKshAbsorb n s = .next t) : CommandEffect s (.kshAbsorb n) t :=
  effect_of_guard he (by decide) fun _ he => effect_of_guard he (by decide) fun hp he => by
    cases he
    exact .hashAbsorb n _ (not_not.1 hp)

theorem execKshFinal_effect (he : execKshFinal s = .next t) : CommandEffect s .kshFinal t :=
  effect_of_guard he (by decide) fun hp he => by
    cases he
    exact .hashFinal (not_not.1 hp)

theorem execKshLoadkey_effect (he : execKshLoadkey s = .next t) : CommandEffect s .kshLoadkey t :=
  effect_of_guard he (by decide) fun hp he => by
    cases he
    exact .loadKey _ (not_not.1 hp)

theorem execGhUpd_effect (he : execGhUpd n s = .next t) : CommandEffect s (.ghUpd n) t :=
  effect_of_guard he (by decide) fun _ he => by
    cases he
    exact .accumulate _ _ (.inr ⟨n, rfl⟩)

theorem execCbcEncf_effect (he : execCbcEncf n s = .next t) : CommandEffect s (.cbcEncf n) t :=
  effect_of_guard he (by decide) fun _ he => by
    cases he
    exact .chained _ _ _ (.inr ⟨n, rfl⟩)

theorem outCount_toNat {k : Nat} (hk : k ≤ 16) : (outCount k).toNat = k := by
  rw [outCount, BitVec.toNat_ofNat, Nat.mod_eq_of_lt (by omega)]

/-- What is left of a block without its pad bytes fits OUTLEN, and the mask has cut DOUT to it. -/
theorem execCbcDecf_effect (he : execCbcDecf s = .next t) : CommandEffect s .cbcDecf t := by
  cases he
  split
  · have hn := outCount_toNat (Nat.sub_le 16 (padLength (decrypt s.rom.ct s.key s.din0 ^^^ s.prev)))
    exact .released _ _ (hn.trans_le (Nat.sub_le ..)) (by rw [hn, maskN_idem])
  · exact .withheld

theorem execFmtCbc_effect (he : execFmtCbc s = .next t) : CommandEffect s .fmtCbc t :=
  effect_of_guard he (by decide) fun _ he => by
    cases he
    exact .block _ _ (by simp)

theorem execFmtGcm_effect (he : execFmtGcm s = .next t) : CommandEffect s .fmtGcm t :=
  effect_of_guard he (by decide) fun _ he => by
    cases he
    exact .block _ _ (by simp)

/-- A count that is not out of range for GCM_ENC or GCM_DEC is at most 16 (R84). -/
theorem gcmCount_le (hn : ¬ (Instr.gcmEnc n).legal = false) : n.toNat ≤ 16 := by
  simp only [Instr.legal, Bool.not_eq_false, Bool.and_eq_true, decide_eq_true_eq] at hn
  exact hn.2

theorem execGcmEnc_effect (he : execGcmEnc n s = .next t) : CommandEffect s (.gcmEnc n) t :=
  effect_of_guard he (by decide) fun hn he => effect_of_guard he (by decide) fun hg he => by
    cases he
    exact .gcmData _ n _ _ (by simp) (not_not.1 hg) (gcmCount_le hn) (maskN_idem _ _)

theorem execGcmDec_effect (he : execGcmDec n s = .next t) : CommandEffect s (.gcmDec n) t :=
  effect_of_guard he (by decide) fun hn he => effect_of_guard he (by decide) fun hg he => by
    cases he
    exact .gcmData _ n _ _ (by simp) (not_not.1 hg) (gcmCount_le hn) (maskN_idem _ _)

theorem execGcmTag_effect (he : execGcmTag s = .next t) : CommandEffect s .gcmTag t :=
  effect_of_guard he (by decide) fun hg he => by
    cases he
    exact .gcmTag _ _ (by tauto)

theorem execGcmVerify_effect (he : execGcmVerify s = .next t) : CommandEffect s .gcmVerify t :=
  effect_of_guard he (by decide) fun hg he => by
    cases he
    exact .gcmVerify _ (not_not.1 hg)

/-- Whatever a command answers is one of the effects. -/
theorem exec_effect {i : Instr} (he : exec i s = .next t) : CommandEffect s i t := by
  cases i with
  | nop => cases he; exact .nop
  | clear => cases he; exact .clear
  | kshInit => cases he; exact .hashInit
  | kshAbsorb n => exact execKshAbsorb_effect he
  | kshFinal => exact execKshFinal_effect he
  | kshLoadkey => exact execKshLoadkey_effect he
  | keyZero => cases he; exact .zeroKey
  | blkEnc => cases he; exact .block _ _ (by simp)
  | blkDec => cases he; exact .block _ _ (by simp)
  | gfMul => cases he; exact .block _ _ (by simp)
  | ghSeth => cases he; exact .subkey _ _ (by simp)
  | ghLdh => cases he; exact .subkey _ _ (by simp)
  | ghClr => cases he; exact .accumulate _ _ (.inl rfl)
  | ghUpd n => exact execGhUpd_effect he
  | cbcSetiv => cases he; exact .setIv
  | cbcEnc => cases he; exact .chained _ _ _ (by simp)
  | cbcEncf n => exact execCbcEncf_effect he
  | cbcDec => cases he; exact .chained _ _ _ (by simp)
  | cbcDecf => exact execCbcDecf_effect he
  | fmtCbc => exact execFmtCbc_effect he
  | gcmInit => cases he; exact .gcmInit _ _ _
  | gcmEnc n => exact execGcmEnc_effect he
  | gcmDec n => exact execGcmDec_effect he
  | gcmTag => exact execGcmTag_effect he
  | gcmVerify => exact execGcmVerify_effect he
  | fmtGcm => exact execFmtGcm_effect he
  | inc32 => cases he; exact .block _ _ (by simp)

end Commands

end Sys2Proof.Machine
end

section
/-! The frame of a command: which registers it leaves unchanged, and which way the two phases move. -/

namespace Sys2Proof.Machine

section Frame

variable {s t : State} {i : Instr}

theorem CommandEffect.cmd_eq (e : CommandEffect s i t) : t.cmd = s.cmd := by
  cases e <;> rfl

theorem CommandEffect.rom_eq (e : CommandEffect s i t) : t.rom = s.rom := by
  cases e <;> rfl

theorem CommandEffect.hostSide_eq (e : CommandEffect s i t) (hi : i ≠ .clear) :
    t.din0 = s.din0 ∧ t.din1 = s.din1 ∧ t.overrun = s.overrun ∧ t.pending = s.pending := by
  cases e with
  | clear => exact absurd rfl hi
  | _ => exact ⟨rfl, rfl, rfl, rfl⟩

theorem CommandEffect.writes_dout (e : CommandEffect s i t) (hi : i ≠ .clear)
    (ht : t.dout ≠ s.dout ∨ t.outlen ≠ s.outlen) :
    i ∈ [Instr.blkEnc, .blkDec, .gfMul, .cbcEnc, .cbcDec, .cbcDecf, .fmtCbc, .fmtGcm, .gcmTag, .inc32]
      ∨ ∃ n, i ∈ [Instr.cbcEncf n, .gcmEnc n, .gcmDec n] := by
  cases e with
  | clear => exact absurd rfl hi
  | released | withheld | gcmTag => simp
  | block _ _ hm | chained _ _ _ hm | gcmData _ _ _ _ hm => grind
  | _ => simp at ht

theorem CommandEffect.writes_prev (e : CommandEffect s i t) (hi : i ≠ .clear) (ht : t.prev ≠ s.prev) :
    i ∈ [Instr.cbcSetiv, .cbcEnc, .cbcDec, .cbcDecf] ∨ ∃ n, i = .cbcEncf n := by
  cases e with
  | clear => exact absurd rfl hi
  | setIv | released => simp
  | chained _ _ _ hm => grind
  | _ => exact absurd rfl ht

theorem CommandEffect.writes_h (e : CommandEffect s i t) (hi : i ≠ .clear) (ht : t.h ≠ s.h) :
    i ∈ [Instr.ghSeth, .ghLdh, .gcmInit] := by
  cases e with
  | clear => exact absurd rfl hi
  | gcmInit => simp
  | subkey _ _ hm => grind
  | _ => exact absurd rfl ht

theorem CommandEffect.writes_j0 (e : CommandEffect s i t) (hi : i ≠ .clear) (ht : t.j0 ≠ s.j0) : i = .gcmInit := by
  cases e with
  | clear => exact absurd rfl hi
  | gcmInit => rfl
  | _ => exact absurd rfl ht

theorem CommandEffect.writes_ctr (e : CommandEffect s i t) (hi : i ≠ .clear)
    (ht : t.ctr ≠ s.ctr ∨ t.len ≠ s.len) : i = .gcmInit ∨ ∃ n, i ∈ [Instr.gcmEnc n, .gcmDec n] := by
  cases e with
  | clear => exact absurd rfl hi
  | gcmInit => exact .inl rfl
  | gcmData _ n _ _ hm => exact .inr ⟨n, hm⟩
  | _ => simp at ht

theorem CommandEffect.writes_acc (e : CommandEffect s i t) (hi : i ≠ .clear) (ht : t.acc ≠ s.acc) :
    i ∈ [Instr.ghClr, .gcmInit, .gcmTag] ∨ ∃ n, i ∈ [Instr.ghUpd n, .gcmEnc n, .gcmDec n] := by
  cases e with
  | clear => exact absurd rfl hi
  | gcmInit | gcmTag => simp
  | accumulate _ _ hm | gcmData _ _ _ _ hm => grind
  | _ => exact absurd rfl ht

theorem CommandEffect.writes_tag (e : CommandEffect s i t) (hi : i ≠ .clear) (ht : t.tag ≠ s.tag) :
    i ∈ [Instr.gcmInit, .gcmTag] := by
  cases e with
  | clear => exact absurd rfl hi
  | gcmInit | gcmTag => simp
  | _ => exact absurd rfl ht

theorem CommandEffect.writes_key (e : CommandEffect s i t) (hi : i ≠ .clear) (ht : t.key ≠ s.key) :
    i ∈ [Instr.kshLoadkey, .keyZero] := by
  cases e with
  | clear => exact absurd rfl hi
  | loadKey | zeroKey => simp
  | _ => exact absurd rfl ht

theorem CommandEffect.writes_hash (e : CommandEffect s i t) (hi : i ≠ .clear)
    (ht : t.hash ≠ s.hash ∨ t.hphase ≠ s.hphase) :
    i ∈ [Instr.kshInit, .kshFinal, .kshLoadkey] ∨ ∃ n, i = .kshAbsorb n := by
  cases e with
  | clear => exact absurd rfl hi
  | hashInit | hashAbsorb | hashFinal | loadKey => simp
  | _ => simp at ht

theorem CommandEffect.writes_auth (e : CommandEffect s i t) (hi : i ≠ .clear)
    (ht : t.authValid ≠ s.authValid ∨ t.authOk ≠ s.authOk) : i ∈ [Instr.gcmInit, .gcmVerify] := by
  cases e with
  | clear => exact absurd rfl hi
  | gcmInit | gcmVerify => simp
  | _ => simp at ht

theorem CommandEffect.hphase_moves (e : CommandEffect s i t) (ht : t.hphase ≠ s.hphase) :
    (i = .kshFinal ∧ s.hphase = .absorbing ∧ t.hphase = .final)
      ∨ (i = .kshLoadkey ∧ s.hphase = .final ∧ t.hphase = .consumed)
      ∨ ((i = .kshInit ∨ i = .clear) ∧ t.hphase = .absorbing) := by
  cases e with
  | hashFinal hp => exact .inl ⟨rfl, hp, rfl⟩
  | loadKey _ hp => exact .inr (.inl ⟨rfl, hp, rfl⟩)
  | hashInit => exact .inr (.inr ⟨.inl rfl, rfl⟩)
  | clear => exact .inr (.inr ⟨.inr rfl, rfl⟩)
  | _ => exact absurd rfl ht

/-- A data block closes the message when it is partial and leaves the phase otherwise (R49, R201, R202). -/
theorem phaseAfter_cases (n : Nat) (g : GPhase) : (n < 16 ∧ phaseAfter n g = .closed) ∨ phaseAfter n g = g := by
  unfold phaseAfter
  split
  · next hn => exact .inl ⟨hn, rfl⟩
  · exact .inr rfl

theorem CommandEffect.gphase_moves (e : CommandEffect s i t) (ht : t.gphase ≠ s.gphase) :
    (i = .gcmInit ∧ t.gphase = .opened)
      ∨ ((∃ n : BitVec 5, n.toNat < 16 ∧ i ∈ [Instr.gcmEnc n, .gcmDec n]) ∧ s.gphase = .opened ∧ t.gphase = .closed)
      ∨ (i = .gcmTag ∧ (s.gphase = .opened ∨ s.gphase = .closed) ∧ t.gphase = .done)
      ∨ (i = .clear ∧ t.gphase = .idle) := by
  cases e with
  | gcmInit => exact .inl ⟨rfl, rfl⟩
  | gcmData _ n _ _ hm hg =>
    obtain ⟨hn, hclosed⟩ | hsame := phaseAfter_cases (count n) s.gphase
    · exact .inr (.inl ⟨⟨n, hn, hm⟩, hg, hclosed⟩)
    · exact absurd hsame ht
  | gcmTag _ _ hg => exact .inr (.inr (.inl ⟨rfl, hg, rfl⟩))
  | clear => exact .inr (.inr (.inr ⟨rfl, rfl⟩))
  | _ => exact absurd rfl ht

theorem CommandEffect.writes_gphase (e : CommandEffect s i t) (hi : i ≠ .clear) (ht : t.gphase ≠ s.gphase) :
    i ∈ [Instr.gcmInit, .gcmTag] ∨ ∃ n, i ∈ [Instr.gcmEnc n, .gcmDec n] := by
  obtain ⟨rfl, _⟩ | ⟨⟨n, _, hm⟩, _⟩ | ⟨rfl, _⟩ | ⟨rfl, _⟩ := e.gphase_moves ht
  · simp
  · exact .inr ⟨n, hm⟩
  · simp
  · exact absurd rfl hi

end Frame

/-- Settles O53: the register lemmas above, register by register. -/
theorem commandsWriteOnlyTheirRegisters : Obligations.CommandsWriteOnlyTheirRegisters := by
  intro i s t he hi
  have e := exec_effect he
  obtain ⟨hdin0, hdin1, hover, hpend⟩ := e.hostSide_eq hi
  exact ⟨e.cmd_eq, hdin0, hdin1, hover, hpend, e.rom_eq, e.writes_dout hi, e.writes_prev hi, e.writes_h hi,
    e.writes_j0 hi, e.writes_ctr hi, e.writes_acc hi, e.writes_tag hi, e.writes_key hi, e.writes_hash hi,
    e.writes_gphase hi, e.writes_auth hi⟩

/-- Settles O54: each effect that moves a phase is one of the moves R48 and R49 draw. -/
theorem phaseTransitions : Obligations.PhaseTransitions := fun _ _ _ he =>
  ⟨(exec_effect he).hphase_moves, (exec_effect he).gphase_moves⟩

end Sys2Proof.Machine
end

section
/-! What one HOST operation and one step can do, each as an inversion: the CORE's step by the effect of its command, the
HOST's by the three shapes of an operation. With them, what no step changes and what none clears. -/

namespace Sys2Proof.Machine

section Step

variable {s t : State} {op : HostOp}

/-- A write that is not dropped is a command, or reaches DIN0, DIN1 and KEY at most (R63, R65, R66). -/
theorem writeReg_cases (s : State) (v : Word) (r : WinReg) :
    writeReg s v r = s.acceptCommand v ∨ ∃ a b k, writeReg s v r = { s with din0 := a, din1 := b, key := k } := by
  cases r with
  | cmd => exact .inl rfl
  | _ => exact .inr ⟨_, _, _, rfl⟩

/-- The shapes of a HOST operation. -/
inductive HostEffect (s : State) : HostOp → State → Prop where
  /-- An access that hands over no command: it may set OVERRUN and write the operands and KEY (R62, R63, R90). -/
  | access (op : HostOp) (overrun : Bool) (a b : Block) (k : Schedule) (script : List HostOp) (received : List Word)
      (hop : op ≠ .reset) (hover : s.overrun = true → overrun = true) :
      HostEffect s op
        { s with
          overrun := overrun, din0 := a, din1 := b, key := k, script := script, received := received
          delay := s.delay - 1 }
  /-- An accepted command (R22, R254). -/
  | accept (off : Nat) (w : Word) : HostEffect s (.wr 8 off w) (s.acceptCommand w).popScript
  /-- The reset event (R250). -/
  | reset : HostEffect s .reset s.resetEvent.popScript

theorem hostWrite_effect (s : State) (off : Nat) (v : Word) :
    HostEffect s (.wr 8 off v) (hostWrite s.tick off v).popScript := by
  obtain ⟨_, _, hw⟩ | ⟨_, hw⟩ := hostWrite_cases s.tick off v
  · rw [hw]
    exact .access _ true _ _ _ _ _ (by simp) fun _ => rfl
  · rw [hw]
    obtain hr | ⟨a, b, k, hr⟩ := writeReg_cases s.tick v (regAt off)
    · rw [hr]
      exact .accept off v
    · rw [hr]
      exact .access _ _ a b k _ _ (by simp) id

/-- Whatever a HOST operation answers is one of the effects. -/
theorem hostOp_effect (hs : hostOp s op = .next t) : HostEffect s op t := by
  obtain ⟨off, rfl, _, _, rfl⟩ | ⟨off, v, rfl, _, _, rfl⟩ | ⟨rfl, _, rfl⟩ | ⟨rfl, _, rfl⟩ | ⟨rfl, rfl⟩ :=
    hostOp_next hs
  · exact .access _ _ _ _ _ _ _ (by simp) id
  · exact hostWrite_effect s off v
  · exact .access _ _ _ _ _ _ _ (by simp) id
  · exact .access _ _ _ _ _ _ _ (by simp) id
  · exact .reset

theorem coreMoves_iff (s : State) : coreMoves s = true ↔ s.coreDue := by
  simp [coreMoves, State.coreDue]

/-- A CORE step is the effect of a command and then PENDING <- (0, 0). An ILLEGAL word has the effect of a NOP that
fails (R85, R233); CLEAR's effect comes from CLEAR's word only. -/
theorem coreStep_effect (hs : coreStep s = .next t) :
    ∃ i u, CommandEffect s i u ∧ t = u.clearPending ∧ (i = .clear → decode s.pending.word = .cmd .clear) := by
  obtain ⟨i, u, hd, hu, rfl⟩ | ⟨_, _, rfl⟩ := coreStep_next hs
  · exact ⟨i, u, exec_effect hu, rfl, fun hi => hi ▸ hd⟩
  · exact ⟨.nop, _, .error .nop .illegalCmd (by decide), rfl, by simp⟩

/-- All a step can do, by effects. -/
theorem step_effect (hs : step s = .next t) :
    (s.coreDue ∧ ∃ i u, CommandEffect s i u ∧ t = u.clearPending ∧
        (i = .clear → decode s.pending.word = .cmd .clear)) ∨
      (∃ op rest, s.hostDue op rest ∧ HostEffect s op t) ∨ (¬ s.coreDue ∧ t = s) := by
  obtain ⟨hm, hc⟩ | ⟨hm, op, rest, hsc, ho⟩ | ⟨hm, _, rfl⟩ := step_cases hs
  · exact .inl ⟨(coreMoves_iff s).1 hm, coreStep_effect hc⟩
  · exact .inr (.inl ⟨op, rest, ⟨by simp [← coreMoves_iff, hm], hsc⟩, hostOp_effect ho⟩)
  · exact .inr (.inr ⟨by simp [← coreMoves_iff, hm], rfl⟩)

/-! The ROM (R51, R52) -/

theorem HostEffect.rom_eq (e : HostEffect s op t) : t.rom = s.rom := by
  cases e <;> rfl

/-! The sticky bits (R25, R26) -/

theorem CommandEffect.err_of_errcode {i : Instr} (e : CommandEffect s i t) (ht : t.errcode ≠ .ok) : t.err = true := by
  cases e with
  | error | withheld => rfl
  | _ => exact absurd rfl ht

theorem CommandEffect.err_eq {i : Instr} (e : CommandEffect s i t) (hi : i ≠ .clear) (ht : t.errcode = .ok) :
    t.err = s.err := by
  cases e with
  | clear => exact absurd rfl hi
  | error _ _ hcode => exact absurd ht hcode
  | withheld => cases ht
  | _ => rfl

theorem CommandEffect.err_sticky {i : Instr} (e : CommandEffect s i t) (hi : i ≠ .clear) (hs : s.err = true) :
    t.err = true := by
  by_cases ht : t.errcode = .ok
  · rw [e.err_eq hi ht, hs]
  · exact e.err_of_errcode ht

theorem HostEffect.err_eq (e : HostEffect s op t) (hop : op ≠ .reset) : t.err = s.err := by
  cases e with
  | access | accept => rfl
  | reset => exact absurd rfl hop

theorem HostEffect.overrun_sticky (e : HostEffect s op t) (hop : op ≠ .reset) (hs : s.overrun = true) :
    t.overrun = true := by
  cases e with
  | access _ _ _ _ _ _ _ _ hover => exact hover hs
  | accept => exact hs
  | reset => exact absurd rfl hop

end Step

/-- Settles O55: neither agent's effect writes the ROM. -/
theorem romNeverChanges : Obligations.RomNeverChanges := by
  intro s t hs
  obtain ⟨_, i, u, e, rfl, _⟩ | ⟨op, _, _, e⟩ | ⟨_, rfl⟩ := step_effect hs
  · exact e.rom_eq
  · exact e.rom_eq
  · rfl

/-- Settles O52: of the three kinds of step only the CORE's sets ERRCODE, and only CLEAR and the reset event erase. -/
theorem stickyBitsAreSticky : Obligations.StickyBitsAreSticky := by
  intro s t hs cleared
  obtain ⟨hdue, i, u, e, rfl, hclear⟩ | ⟨op, rest, ⟨hdue, hscript⟩, e⟩ | ⟨hdue, rfl⟩ := step_effect hs
  · have hi (hc : ¬ cleared) : i ≠ .clear := fun hi => hc (.inl ⟨hdue, hclear hi⟩)
    refine ⟨fun hc => e.err_sticky (hi hc), fun hc hover => ?_, fun _ => e.err_of_errcode, fun _ hc => e.err_eq (hi hc)⟩
    obtain ⟨_, _, hkept, _⟩ := e.hostSide_eq (hi hc)
    exact hkept.trans hover
  · have hop (hc : ¬ cleared) : op ≠ .reset := fun hop => hc (.inr ⟨rest, hdue, hop ▸ hscript⟩)
    exact ⟨fun hc herr => (e.err_eq (hop hc)).trans herr, fun hc => e.overrun_sticky (hop hc),
      fun h => absurd h hdue, fun h => absurd h hdue⟩
  · exact ⟨fun _ => id, fun _ => id, fun h => absurd h hdue, fun h => absurd h hdue⟩

end Sys2Proof.Machine
end

section
/-! The state after reset, the STATUS word, and what the HOST cannot read. -/

namespace Sys2Proof.Machine

/-- Every element of R54 but the ROM is at its reset value once the CORE is erased, whatever the HOST's side holds. -/
theorem erased_atReset (rom : Rom) (script : List HostOp) (received : List Word) (draws : Nat) :
    State.AtReset { State.resetWith rom with script := script, received := received, draws := draws } where
  cmd := rfl
  status := by simp [statusWord, busy, HashState.fresh, Pending.empty, errByte, hphaseBits, gphaseBits]
  din0 := rfl
  din1 := rfl
  dout := rfl
  prev := rfl
  h := rfl
  j0 := rfl
  ctr := rfl
  acc := rfl
  tag := rfl
  len := rfl
  key i := Vector.getElem_replicate i.isLt
  chk i := Vector.getElem_replicate i.isLt
  buf i := Vector.getElem_replicate i.isLt
  cur := rfl
  fb := rfl
  hphase := rfl
  gphase := rfl
  valid := rfl
  word := rfl

/-- Settles O13: the reset state, the state after the reset event and, CMD apart, the state after CLEAR are all the
erased CORE over the ROM that stands. -/
theorem resetValues : Obligations.ResetValues :=
  ⟨erased_atReset _ _ _ _, fun s =>
    ⟨erased_atReset s.rom _ _ _, rfl, s.clearAll, rfl, erased_atReset s.rom _ _ _, rfl, rfl⟩⟩

/-- Of the hash state only HCUR is read, in STATUS; KEY reads 0 (R43, R57, R65). -/
theorem readReg_secrets (s : State) (k : Schedule) (chk : Vector Byte 512) (buf : Vector Byte 1536) (fb : Byte)
    (r : WinReg) :
    readReg { s with key := k, hash := { s.hash with chk := chk, buf := buf, fb := fb } } r = readReg s r := by
  cases r <;> rfl

/-- Settles O11, register by register of the window. -/
theorem secretsAreNotReadable : Obligations.SecretsAreNotReadable := fun s k chk buf fb off =>
  readReg_secrets s k chk buf fb (regAt off)

/-! A field of a concatenation, reached from the right -/

section Fields

variable {v w start len : Nat} {x : BitVec v} {y : BitVec w}

/-- A field above the last part of a concatenation lies in the rest of it. -/
theorem extractLsb'_append_skip {f : BitVec len} (hw : w ≤ start) (hx : x.extractLsb' (start - w) len = f) :
    (x ++ y).extractLsb' start len = f :=
  (BitVec.extractLsb'_append_eq_of_le hw).trans hx

theorem extractLsb'_append_last : (x ++ y).extractLsb' 0 w = y := by
  rw [BitVec.extractLsb'_append_eq_of_add_le (by omega), BitVec.extractLsb'_eq_self]

theorem getLsbD_append_skip {b : Bool} (hw : w ≤ start) (hx : x.getLsbD (start - w) = b) :
    (x ++ y).getLsbD start = b := by
  rw [BitVec.getLsbD_append, if_neg (by omega), hx]

theorem getLsbD_append_last (b : Bool) : (x ++ BitVec.ofBool b).getLsbD 0 = b := by
  rw [BitVec.getLsbD_append, if_pos (by decide)]
  simp

end Fields

/-- Settles O12: each field is reached by skipping the ones to its right in the concatenation of R23. -/
theorem statusWordFields : Obligations.StatusWordFields := by
  refine ⟨fun s => ?_, rfl, rfl, rfl, rfl, rfl, rfl, rfl, rfl, rfl, rfl, rfl, rfl, rfl⟩
  unfold statusWord
  refine ⟨?_, ?_, ?_, ?_, ?_, ?_, ?_, ?_, ?_, ?_, ?_, ?_, ?_⟩
  all_goals repeat refine getLsbD_append_skip (by decide) ?_
  all_goals repeat refine extractLsb'_append_skip (by decide) ?_
  iterate 5 exact getLsbD_append_last _
  iterate 7 exact extractLsb'_append_last
  rfl

end Sys2Proof.Machine
end

section
/-! The invariant between steps (R58): each of its four parts under the effect of a command, then under a HOST
operation, then under a step. -/

namespace Sys2Proof.Machine

/-- An erased hash state outside FINAL: after reset, CLEAR, KSH_INIT and KSH_LOADKEY. -/
theorem HashInv.of_fresh {s : State} (hh : s.hash = HashState.fresh) (hp : s.hphase ≠ .final) : HashInv s where
  cursor := by
    rw [hh]
    decide
  consumed _ := hh
  final h := absurd h hp

theorem ResultInv.of_masked {s : State} (n : BitVec 5) (hn : n.toNat ≤ 16) (ho : s.outlen = n)
    (hv : maskN n.toNat s.dout = s.dout) : ResultInv s :=
  ⟨ho ▸ hn, ho ▸ hv⟩

/-- A result of 16 bytes has no byte beyond it. -/
theorem ResultInv.of_block {s : State} (ho : s.outlen = 16) : ResultInv s :=
  .of_masked 16 (by decide) ho (maskN_full _ (by decide) _)

/-- No result (R32). -/
theorem ResultInv.of_zero {s : State} (ho : s.outlen = 0) (hv : s.dout = 0) : ResultInv s :=
  .of_masked 0 (by decide) ho (by rw [hv, maskN_zero_value])

/-- The erased CORE meets the invariant, whatever the HOST's side holds. -/
theorem erased_inv (rom : Rom) (script : List HostOp) (received : List Word) (draws : Nat) :
    State.Inv { State.resetWith rom with script := script, received := received, draws := draws } where
  hash := .of_fresh rfl nofun
  result := .of_zero rfl rfl
  gcm := ⟨fun _ => ⟨rfl, rfl, rfl, rfl⟩, fun _ => rfl, nofun, nofun⟩
  handshake := ⟨fun _ => rfl, fun _ => rfl, nofun, Nat.two_pow_pos 32, fun h => absurd rfl h⟩

/-- Settles O58: the reset state is the erased CORE over the implementation's ROM. -/
theorem resetMeetsTheInvariant : Obligations.ResetMeetsTheInvariant := erased_inv _ _ _ _

/-- Both passes of finalize end on a full window: the padding by its length, the checksum because it is one window
(R107, R108). -/
theorem finalize_cur (rom : Rom) (st : HashState) (hc : st.cur.toNat ≤ 511) : (finalize rom st).cur = 0 := by
  have hpad : (finalizePad rom st).cur.toNat = 0 := by
    rw [finalizePad, absorb_cur rom _ st hc, padBytes, List.length_replicate]
    omega
  have hsum : (finalize rom st).cur.toNat = 0 := by
    rw [finalize, finalizeChecksum, absorb_cur rom _ _ (by omega), hpad, Vector.length_toList]
  exact BitVec.eq_of_toNat_eq hsum

section Commands

variable {s t : State} {i : Instr}

theorem CommandEffect.hashInv (e : CommandEffect s i t) (hs : HashInv s) : HashInv t := by
  cases e with
  | clear | hashInit | loadKey => exact .of_fresh rfl nofun
  | hashAbsorb n bs hp =>
    have hcur := absorb_cur s.rom bs s.hash hs.cursor
    refine ⟨?_, fun hc => ?_, fun hc => ?_⟩
    · exact hcur ▸ Nat.le_of_lt_succ (Nat.mod_lt _ (by decide))
    · cases hp.symm.trans hc
    · cases hp.symm.trans hc
  | hashFinal hp =>
    have hcur := finalize_cur s.rom s.hash hs.cursor
    exact ⟨by simp [hcur], nofun, fun _ => hcur⟩
  | _ => exact ⟨hs.cursor, hs.consumed, hs.final⟩

theorem CommandEffect.resultInv (e : CommandEffect s i t) (hs : ResultInv s) : ResultInv t := by
  cases e with
  | clear | withheld => exact .of_zero rfl rfl
  | block | chained | gcmTag => exact .of_block rfl
  | released n v hn hv => exact .of_masked n hn rfl hv
  | gcmData _ n _ v _ _ hn hv => exact .of_masked n hn rfl hv
  | _ => exact ⟨hs.outlen, hs.masked⟩

theorem CommandEffect.gcmInv (e : CommandEffect s i t) (hs : GcmInv s) : GcmInv t := by
  cases e with
  | clear => exact ⟨fun _ => ⟨rfl, rfl, rfl, rfl⟩, fun _ => rfl, nofun, nofun⟩
  | gcmInit => exact ⟨nofun, fun _ => rfl, nofun, nofun⟩
  | gcmData _ n c v _ hg =>
    have htag : s.tag = 0 := hs.untagged (by simp [hg])
    have hvalid : s.authValid ≠ true := fun hv => by cases hg.symm.trans (hs.valid hv)
    refine ⟨fun hidle => ?_, fun _ => htag, fun hv => absurd hv hvalid, hs.ok⟩
    obtain ⟨_, hclosed⟩ | hsame := phaseAfter_cases (count n) s.gphase
    · cases hclosed.symm.trans hidle
    · cases (hsame.trans hg).symm.trans hidle
  | gcmTag => exact ⟨nofun, fun h => absurd rfl h, fun _ => rfl, hs.ok⟩
  | gcmVerify _ hg => exact ⟨hs.idle, hs.untagged, fun _ => hg, fun _ => rfl⟩
  | _ => exact ⟨hs.idle, hs.untagged, hs.valid, hs.ok⟩

/-- At the end of a CORE step nothing is pending, so of the handshake only CMD and the error bits are left to keep. -/
theorem CommandEffect.handshakeInv_clearPending (e : CommandEffect s i t) (hs : HandshakeInv s) :
    HandshakeInv t.clearPending where
  empty _ := rfl
  latencyOver _ := rfl
  cmdOfPending := nofun
  cmdLow := (congrArg BitVec.toNat e.cmd_eq).trans_lt hs.cmdLow
  sticky := e.err_of_errcode

/-! The other three parts do not read PENDING or `delay`. -/

theorem HashInv.clearPending (hs : HashInv s) : HashInv s.clearPending := ⟨hs.cursor, hs.consumed, hs.final⟩

theorem ResultInv.clearPending (hs : ResultInv s) : ResultInv s.clearPending := ⟨hs.outlen, hs.masked⟩

theorem GcmInv.clearPending (hs : GcmInv s) : GcmInv s.clearPending := ⟨hs.idle, hs.untagged, hs.valid, hs.ok⟩

theorem CommandEffect.inv_clearPending (e : CommandEffect s i t) (hs : s.Inv) : t.clearPending.Inv where
  hash := (e.hashInv hs.hash).clearPending
  result := (e.resultInv hs.result).clearPending
  gcm := (e.gcmInv hs.gcm).clearPending
  handshake := e.handshakeInv_clearPending hs.handshake

end Commands

/-- CMD holds the low half of a written word only (R22). -/
theorem acceptCommand_cmd_lt (s : State) (w : Word) : (s.acceptCommand w).cmd.toNat < 2 ^ 32 := by
  rw [State.acceptCommand_cmd, BitVec.toNat_setWidth]
  exact (Nat.mod_le _ _).trans_lt (BitVec.isLt _)

theorem HostEffect.inv {s t : State} {op : HostOp} (e : HostEffect s op t) (hs : s.Inv) : t.Inv := by
  obtain ⟨⟨hcur, hconsumed, hfinal⟩, ⟨hlen, hmask⟩, ⟨hidle, htag, hvalid, hok⟩,
    ⟨hempty, hover, hcmd, hlow, hsticky⟩⟩ := hs
  cases e with
  | access =>
    have hdelay (hp : s.pending.valid = false) : s.delay - 1 = 0 := by rw [hover hp]
    exact ⟨⟨hcur, hconsumed, hfinal⟩, ⟨hlen, hmask⟩, ⟨hidle, htag, hvalid, hok⟩,
      ⟨hempty, hdelay, hcmd, hlow, hsticky⟩⟩
  | accept _ w =>
    exact ⟨⟨hcur, hconsumed, hfinal⟩, ⟨hlen, hmask⟩, ⟨hidle, htag, hvalid, hok⟩,
      ⟨nofun, nofun, fun _ => rfl, acceptCommand_cmd_lt s w, hsticky⟩⟩
  | reset => exact erased_inv s.rom _ _ _

/-- Settles O57: a step is the effect of a command, a HOST operation or nothing, and each keeps the invariant. -/
theorem stepKeepsTheInvariant : Obligations.StepKeepsTheInvariant := by
  intro s t hinv hs
  obtain ⟨_, i, u, e, rfl, _⟩ | ⟨op, _, _, e⟩ | ⟨_, rfl⟩ := step_effect hs
  · exact e.inv_clearPending hinv
  · exact e.inv hinv
  · exact hinv

end Sys2Proof.Machine
end

section
/-! The register window (R60 to R66): the register map and its offsets, what a read returns and what a write does. -/

namespace Sys2Proof.Machine

/-! The register map (R61) -/

/-- Above LEN there is nothing but KEY. -/
theorem regAt_of_gt_len {off : Nat} (ho : 0x0A0 < off) :
    regAt off = if hk : 0x100 ≤ off ∧ off < 0x300 then .key ⟨(off - 0x100) / 8, by omega⟩ else .reserved := by
  unfold regAt
  split
  case h_22 => rfl
  all_goals omega

@[simp] theorem regAt_key (i : Fin 64) : regAt (0x100 + 8 * i.val) = .key i := by
  rw [regAt_of_gt_len (by omega), dif_pos (by omega)]
  congr 2
  omega

theorem regAt_reserved {off : Nat} (ho : (0x0A8 ≤ off ∧ off ≤ 0x0F8) ∨ 0x300 ≤ off) : regAt off = .reserved := by
  rw [regAt_of_gt_len (by omega), dif_neg (by omega)]

@[simp] theorem regAt_offsetOf (r : WinReg) : regAt (offsetOf r) = r := by
  cases r with
  | key i => exact regAt_key i
  | _ => rfl

/-- An aligned offset without a register is reserved; a register stands at one aligned offset only. -/
theorem regAt_cases {off : Nat} (ha : off % 8 = 0) : regAt off = .reserved ∨ off = offsetOf (regAt off) := by
  unfold regAt
  split
  case h_22 =>
    split
    · right
      simp only [offsetOf]
      omega
    · exact .inl rfl
  all_goals exact .inr rfl

/-! Reads (R62) -/

@[simp] theorem hostRead_offsetOf (s : State) (r : WinReg) : hostRead s (offsetOf r) = readReg s r :=
  congrArg (readReg s) (regAt_offsetOf r)

/-- Settles O10: register by register; the reserved offsets hold none. -/
theorem hostReadMap : Obligations.HostReadMap := fun s =>
  have rd := hostRead_offsetOf s
  ⟨rd .cmd, rd .status, rd .din0Hi, rd .din0Lo, rd .din1Hi, rd .din1Lo, rd .doutHi, rd .doutLo, rd .prevHi, rd .prevLo,
    rd .hHi, rd .hLo, rd .j0Hi, rd .j0Lo, rd .ctrHi, rd .ctrLo, rd .accHi, rd .accLo, rd .tagHi, rd .tagLo, rd .len,
    fun i => rd (.key i), fun _ _ ho => congrArg (readReg s) (regAt_reserved (ho.imp_right And.left))⟩

/-! Writes (R63) -/

/-- The offsets whose writes are dropped while BUSY = 1, as R63 lists them. -/
theorem guarded_regAt_iff {off : Nat} (ha : off % 8 = 0) :
    guarded (regAt off) = true ↔ off ∈ [0x000, 0x010, 0x018, 0x020, 0x028] ∨ ∃ i : Fin 64, off = 0x100 + 8 * i.val := by
  constructor
  · intro hg
    obtain hr | ho := regAt_cases ha
    · rw [hr] at hg
      cases hg
    · generalize regAt off = r at hg ho
      subst ho
      cases r with
      | key i => exact .inr ⟨i, rfl⟩
      | cmd | din0Hi | din0Lo | din1Hi | din1Lo => simp [offsetOf]
      | _ => cases hg
  · rintro (hm | ⟨i, rfl⟩)
    · simp only [List.mem_cons, List.not_mem_nil, or_false] at hm
      obtain rfl | rfl | rfl | rfl | rfl := hm <;> rfl
    · rw [regAt_key]
      rfl

theorem writeReg_of_not_guarded (s : State) (v : Word) {r : WinReg} (hr : guarded r = false) : writeReg s v r = s := by
  cases r with
  | cmd | din0Hi | din0Lo | din1Hi | din1Lo | key => cases hr
  | _ => rfl

section Write

variable {s : State} {off : Nat}

theorem hostWrite_of_busy (v : Word) (hg : guarded (regAt off) = true) (hb : busy s = true) :
    hostWrite s off v = s.noteOverrun := by
  simp [hostWrite, hg, hb]

theorem hostWrite_of_not_busy (v : Word) (hb : busy s = false) : hostWrite s off v = writeReg s v (regAt off) := by
  simp [hostWrite, hb]

theorem hostWrite_of_not_guarded (v : Word) (hg : guarded (regAt off) = false) : hostWrite s off v = s := by
  simp [hostWrite, hg, writeReg_of_not_guarded]

end Write

/-- Settles O9: a guarded write while BUSY = 1, a guarded write while BUSY = 0, and every other write. -/
theorem hostWriteCases : Obligations.HostWriteCases := by
  refine fun s v => ⟨fun hb off ho => ?_, fun hb => ?_, fun off ha hm hk => ?_⟩
  · have ha : off % 8 = 0 := by
      obtain hm | ⟨i, rfl⟩ := ho
      · simp at hm
        omega
      · omega
    exact hostWrite_of_busy v ((guarded_regAt_iff ha).2 ho) hb
  · have wr (r : WinReg) : hostWrite s (offsetOf r) v = writeReg s v r := by
      rw [hostWrite_of_not_busy v hb, regAt_offsetOf]
    exact ⟨⟨_, _, wr .cmd⟩, wr .din0Hi, wr .din0Lo, wr .din1Hi, wr .din1Lo, fun i => wr (.key i)⟩
  · refine hostWrite_of_not_guarded v (Bool.eq_false_iff.2 fun hg => ?_)
    obtain hmem | ⟨i, hi⟩ := (guarded_regAt_iff ha).1 hg
    · exact hm hmem
    · exact hk i hi

/-- No write reaches the HOST's own side. -/
@[simp] theorem hostWrite_script (s : State) (off : Nat) (v : Word) : (hostWrite s off v).script = s.script := by
  obtain ⟨_, _, hw⟩ | ⟨_, hw⟩ := hostWrite_cases s off v
  · rw [hw]
    rfl
  · rw [hw]
    cases regAt off <;> rfl

end Sys2Proof.Machine
end

section
/-! Which of the two agents a step belongs to, what each operation of the HOST answers, and that a command always
answers a next state: a step stops at an undefined HOST access and nowhere else (R64, R230). -/

namespace Sys2Proof.Machine

section Step

variable {s : State} {op : HostOp} {rest : List HostOp}

theorem step_of_coreDue (hd : s.coreDue) : step s = coreStep s :=
  if_pos ((coreMoves_iff s).2 hd)

theorem step_of_not_coreDue (hd : ¬ s.coreDue) : step s = hostStep s :=
  if_neg (hd ∘ (coreMoves_iff s).1)

theorem step_of_hostDue (hd : s.hostDue op rest) : step s = hostOp s op := by
  obtain ⟨hcore, hscript⟩ := hd
  rw [step_of_not_coreDue hcore, hostStep, hscript]

theorem step_of_idle (hd : ¬ s.coreDue) (hs : s.script = []) : step s = .next s := by
  rw [step_of_not_coreDue hd, hostStep, hs]

/-! The operations of the HOST -/

theorem hostOp_rd {off : Nat} (s : State) (ha : off % 8 = 0) (ho : off < 0x1000) :
    hostOp s (.rd 8 off) = .next (s.receive (hostRead s off)).tick.popScript := by
  simp [hostOp, (accessProblem_eq_none 8 off).2 ⟨rfl, ha, ho⟩]

theorem hostOp_wr {off : Nat} (s : State) (v : Word) (ha : off % 8 = 0) (ho : off < 0x1000) :
    hostOp s (.wr 8 off v) = .next (hostWrite s.tick off v).popScript := by
  simp [hostOp, (accessProblem_eq_none 8 off).2 ⟨rfl, ha, ho⟩]

/-- A poll of STATUS sees PENDING.valid (R24, R90). -/
@[simp] theorem polledBusy_eq (s : State) : polledBusy s = s.pending.valid := by
  obtain ⟨hbusy, _⟩ := statusWordFields.1 s
  exact hbusy

theorem hostOp_wait (s : State) :
    hostOp s .wait = .next (if s.pending.valid then s.tick else s.tick.popScript) := by
  rw [hostOp, polledBusy_eq]
  split <;> rfl

/-- The access, if the operation is one, is not defined by the spec (R64). -/
def HostOp.Undefined (op : HostOp) : Prop :=
  ∃ width off, (op = .rd width off ∨ ∃ v, op = .wr width off v) ∧ (width ≠ 8 ∨ off % 8 ≠ 0 ∨ 0x1000 ≤ off)

theorem hostOp_of_undefined (s : State) (hu : op.Undefined) : ∃ r, hostOp s op = .refused r := by
  obtain ⟨width, off, hop, hbad⟩ := hu
  have hsome : accessProblem width off ≠ none := by
    rw [ne_eq, accessProblem_eq_none]
    omega
  obtain ⟨r, hr⟩ := Option.ne_none_iff_exists'.1 hsome
  obtain rfl | ⟨v, rfl⟩ := hop
  · exact ⟨r, by simp [hostOp, hr]⟩
  · exact ⟨r, by simp [hostOp, hr]⟩

theorem hostOp_of_defined (s : State) (hd : ¬ op.Undefined) : ∃ t, hostOp s op = .next t := by
  have access_ok {width off : Nat} (hop : op = .rd width off ∨ ∃ v, op = .wr width off v) :
      width = 8 ∧ off % 8 = 0 ∧ off < 0x1000 := by
    by_contra hbad
    exact hd ⟨width, off, hop, by omega⟩
  cases op with
  | rd width off =>
    obtain ⟨rfl, ha, ho⟩ := access_ok (.inl rfl)
    exact ⟨_, hostOp_rd s ha ho⟩
  | wr width off v =>
    obtain ⟨rfl, ha, ho⟩ := access_ok (.inr ⟨v, rfl⟩)
    exact ⟨_, hostOp_wr s v ha ho⟩
  | wait => exact ⟨_, hostOp_wait s⟩
  | reset => exact ⟨_, rfl⟩

/-! Commands complete (R230) -/

/-- A guard answers a next state when the rest of the meaning does. -/
theorem next_of_guard {t : State} {c : Prop} {_ : Decidable c} {r : Result} (hr : ∃ u, r = .next u) :
    ∃ u, (if c then .next t else r) = .next u := by
  split
  · exact ⟨t, rfl⟩
  · exact hr

/-- Every command answers a next state: behind its guards, if it has any, stands an equation with one. -/
theorem exec_completes (i : Instr) (s : State) : ∃ t, exec i s = .next t := by
  cases i with
  | kshAbsorb | gcmEnc | gcmDec => exact next_of_guard (next_of_guard ⟨_, rfl⟩)
  | kshFinal | kshLoadkey | ghUpd | cbcEncf | fmtCbc | gcmTag | gcmVerify | fmtGcm => exact next_of_guard ⟨_, rfl⟩
  | _ => exact ⟨_, rfl⟩

theorem coreStep_completes (s : State) : ∃ t, coreStep s = .next t := by
  unfold coreStep
  split
  · next i _ =>
    obtain ⟨u, hu⟩ := exec_completes i s
    exact ⟨_, by rw [hu]; rfl⟩
  · exact ⟨_, rfl⟩

end Step

/-- Settles O7: the CORE's step completes, and so does the HOST's unless its access is undefined. -/
theorem stepStopsOnlyAtUndefinedAccess : Obligations.StepStopsOnlyAtUndefinedAccess := by
  refine fun s => ⟨?_, fun hbad => ?_⟩
  · rintro ⟨op, rest, hdue, hu⟩
    rw [step_of_hostDue hdue]
    exact hostOp_of_undefined s hu
  · by_cases hcore : s.coreDue
    · rw [step_of_coreDue hcore]
      exact coreStep_completes s
    · cases hscript : s.script with
      | nil => exact ⟨s, step_of_idle hcore hscript⟩
      | cons op rest =>
        have hdue : s.hostDue op rest := ⟨hcore, hscript⟩
        rw [step_of_hostDue hdue]
        exact hostOp_of_defined s fun hu => hbad ⟨op, rest, hdue, hu⟩

/-- Settles O6, operation by operation; the operation that is over leaves the rest of the script. -/
theorem stepTakesTheHostOperation : Obligations.StepTakesTheHostOperation := by
  intro s op rest hdue
  have hstep := step_of_hostDue hdue
  obtain rfl : s.script.tail = rest := congrArg List.tail hdue.2
  refine ⟨?_, ?_, ?_, ?_, ?_⟩
  · rintro off rfl ha ho
    rw [hstep, hostOp_rd s ha ho]
    rfl
  · rintro off v rfl ha ho
    rw [hstep, hostOp_wr s v ha ho, State.popScript, hostWrite_script]
    rfl
  · rintro rfl hb
    rw [hstep, hostOp_wait, hb]
    rfl
  · rintro rfl hb
    rw [hstep, hostOp_wait, hb]
    rfl
  · rintro rfl
    exact hstep

end Sys2Proof.Machine
end

section
/-! The command words (R80 to R89): a word is fixed by its three fields, and it decodes to a command exactly when the
command is legal and the word is that command's. The words that decode to none are those R86 lists. -/

namespace Sys2Proof

/-! The fields of a word as numbers (R81 to R83) -/

theorem opcField_toNat (w : Word) : (opcField w).toNat = w.toNat % 256 := by
  simp [opcField]

theorem countField_toNat (w : Word) : (countField w).toNat = w.toNat / 256 % 32 := by
  simp [countField, Nat.shiftRight_eq_div_pow]

theorem reservedField_toNat (w : Word) : (reservedField w).toNat = w.toNat / 2 ^ 13 := by
  rw [reservedField, BitVec.extractLsb'_toNat, Nat.shiftRight_eq_div_pow]
  omega

theorem word_ext_fields {w v : Word} (hopc : opcField w = opcField v) (hcount : countField w = countField v)
    (hres : reservedField w = reservedField v) : w = v := by
  have hopc' := congrArg BitVec.toNat hopc
  have hcount' := congrArg BitVec.toNat hcount
  have hres' := congrArg BitVec.toNat hres
  rw [opcField_toNat, opcField_toNat] at hopc'
  rw [countField_toNat, countField_toNat] at hcount'
  rw [reservedField_toNat, reservedField_toNat] at hres'
  exact BitVec.eq_of_toNat_eq (by omega)

open Laws.EncodingFields in
/-- The fields of an encoded word, for all commands at once. -/
theorem encode_fields (i : Instr) :
    opcField (encode i) = opcode i ∧ countField (encode i) = countOf i ∧ reservedField (encode i) = 0 := by
  cases i
  exacts [nop, clear, kshInit, kshAbsorb _, kshFinal, kshLoadkey, keyZero, blkEnc, blkDec, gfMul, ghSeth, ghLdh, ghClr,
    ghUpd _, cbcSetiv, cbcEnc, cbcEncf _, cbcDec, cbcDecf, fmtCbc, gcmInit, gcmEnc _, gcmDec _, gcmTag, gcmVerify,
    fmtGcm, inc32]

theorem eq_encode_iff (w : Word) (i : Instr) :
    w = encode i ↔ reservedField w = 0 ∧ opcField w = opcode i ∧ countField w = countOf i := by
  obtain ⟨hopc, hcount, hres⟩ := encode_fields i
  constructor
  · rintro rfl
    exact ⟨hres, hopc, hcount⟩
  · rintro ⟨hres', hopc', hcount'⟩
    exact word_ext_fields (hopc'.trans hopc.symm) (hcount'.trans hcount.symm) (hres'.trans hres.symm)

/-! The rows of the opcode map (R84) -/

section Rows

variable {i j : Instr} {n : BitVec 5} {mk : BitVec 5 → Instr}

theorem decodeF0_eq_cmd_iff : decodeF0 j n = .cmd i ↔ n = 0 ∧ j = i := by
  unfold decodeF0
  split <;> simp_all

theorem decodeFN_eq_cmd_iff : decodeFN mk n = .cmd i ↔ (mk n).legal = true ∧ mk n = i := by
  unfold decodeFN
  split <;> simp_all

theorem exists_decodeF0_eq_cmd_iff : (∃ i, decodeF0 j n = .cmd i) ↔ n.toNat = 0 := by
  simp only [decodeF0_eq_cmd_iff, exists_and_left, exists_eq', and_true]
  exact BitVec.toNat_eq

theorem exists_decodeFN_eq_cmd_iff : (∃ i, decodeFN mk n = .cmd i) ↔ (mk n).legal = true := by
  simp only [decodeFN_eq_cmd_iff, exists_and_left, exists_eq', and_true]

end Rows

/-- The opcode map finds the legal command of an opcode and a count, and no other (R84). -/
theorem decodeFields_eq_cmd_iff (opc : BitVec 8) (n : BitVec 5) (i : Instr) :
    decodeFields opc n = .cmd i ↔ i.legal = true ∧ opc = opcode i ∧ n = countOf i := by
  constructor
  · unfold decodeFields
    split
    case h_4 | h_14 | h_17 | h_22 | h_23 =>
      -- the FN rows
      rw [decodeFN_eq_cmd_iff]
      rintro ⟨hlegal, rfl⟩
      exact ⟨hlegal, rfl, rfl⟩
    case h_28 => simp
    all_goals
      -- the F0 rows
      rw [decodeF0_eq_cmd_iff]
      rintro ⟨rfl, rfl⟩
      exact ⟨rfl, rfl, rfl⟩
  · rintro ⟨hlegal, rfl, rfl⟩
    cases i with
    | kshAbsorb | ghUpd | cbcEncf | gcmEnc | gcmDec => exact if_pos hlegal
    | _ => rfl

theorem decode_eq_cmd_iff_fields (w : Word) (i : Instr) :
    decode w = .cmd i ↔ reservedField w = 0 ∧ decodeFields (opcField w) (countField w) = .cmd i := by
  unfold decode
  split <;> simp_all

/-- The decoder and the encoder are inverse to each other on the legal commands (R85, R89). -/
theorem decode_eq_cmd_iff (w : Word) (i : Instr) : decode w = .cmd i ↔ i.WellFormed ∧ w = encode i := by
  rw [decode_eq_cmd_iff_fields, decodeFields_eq_cmd_iff, eq_encode_iff]
  exact and_left_comm

/-- Settles O1: `decode_eq_cmd_iff` from right to left. -/
theorem decodeOfEncode : Obligations.DecodeOfEncode := fun i hi => (decode_eq_cmd_iff _ i).2 ⟨hi, rfl⟩

/-- Settles O2: `decode_eq_cmd_iff` from left to right. -/
theorem encodeOfDecode : Obligations.EncodeOfDecode := fun w i => (decode_eq_cmd_iff w i).1

/-- Settles O4: the decoder evaluated on each word. -/
theorem sampleWordsDecode : Obligations.SampleWordsDecode := by
  unfold Obligations.SampleWordsDecode
  decide

/-! The illegal words (R86) -/

/-- The opcodes without a row, by the ranges of R86. -/
def OpcodeUnassigned (opc : Nat) : Prop :=
  (0x02 ≤ opc ∧ opc ≤ 0x0F) ∨ (0x14 ≤ opc ∧ opc ≤ 0x1F) ∨ (0x21 ≤ opc ∧ opc ≤ 0x2F)
    ∨ (0x32 ≤ opc ∧ opc ≤ 0x3F) ∨ (0x45 ≤ opc ∧ opc ≤ 0x4F) ∨ (0x56 ≤ opc ∧ opc ≤ 0x5F) ∨ 0x67 ≤ opc

/-- The counts outside the range of their row, as R86 lists them. -/
def CountBad (opc n : Nat) : Prop :=
  (opc = 0x11 ∧ 17 ≤ n) ∨ ((opc = 0x44 ∨ opc = 0x61 ∨ opc = 0x62) ∧ (n = 0 ∨ 17 ≤ n))
    ∨ (opc = 0x52 ∧ 16 ≤ n)
    ∨ (opc ≠ 0x11 ∧ opc ≠ 0x44 ∧ opc ≠ 0x61 ∧ opc ≠ 0x62 ∧ opc ≠ 0x52 ∧ n ≠ 0)

/-- A row answers a command exactly for the counts R86 does not list; past the rows, R86 lists the opcode. -/
theorem exists_decodeFields_eq_cmd_iff (opc : BitVec 8) (n : BitVec 5) :
    (∃ i, decodeFields opc n = .cmd i) ↔ ¬ (OpcodeUnassigned opc.toNat ∨ CountBad opc.toNat n.toNat) := by
  unfold decodeFields OpcodeUnassigned CountBad
  split
  case h_28 =>
    -- the opcode is none of the 27 rows'
    simp only [reduceCtorEq, exists_false, false_iff, not_not]
    left
    simp only [imp_false, BitVec.toNat_eq, BitVec.toNat_ofNat] at *
    omega
  case h_4 | h_14 | h_17 | h_22 | h_23 =>
    -- the FN rows: the legal range is what the count's clause leaves
    simp only [exists_decodeFN_eq_cmd_iff, Instr.legal, Bool.and_eq_true, decide_eq_true_eq, BitVec.toNat_ofNat,
      true_and, true_or, or_true]
    omega
  all_goals
    -- the F0 rows: the count is 0
    simp only [exists_decodeF0_eq_cmd_iff, BitVec.toNat_ofNat]
    omega

theorem exists_decode_eq_cmd_iff (w : Word) :
    (∃ i, decode w = .cmd i) ↔
      ¬ (w.toNat / 2 ^ 13 ≠ 0 ∨ OpcodeUnassigned (w.toNat % 256) ∨ CountBad (w.toNat % 256) (w.toNat / 256 % 32)) := by
  have hres : reservedField w = 0 ↔ w.toNat / 2 ^ 13 = 0 := by
    rw [BitVec.toNat_eq, reservedField_toNat]
    rfl
  simp only [decode_eq_cmd_iff_fields, exists_and_left]
  rw [exists_decodeFields_eq_cmd_iff, hres, opcField_toNat, countField_toNat]
  simp only [not_or, not_ne_iff]

end Sys2Proof
end

section
/-! The CORE's step by what the decoder says of PENDING.word (R85, R233, R254). -/

namespace Sys2Proof.Machine

section Step

variable {s t : State}

theorem step_of_decode_cmd {i : Instr} (hdue : s.coreDue) (hd : decode s.pending.word = .cmd i)
    (he : exec i s = .next t) : step s = .next t.clearPending := by
  rw [step_of_coreDue hdue, coreStep, hd]
  exact congrArg finishCommand he

theorem step_of_decode_illegal {why : IllegalReason} (hdue : s.coreDue) (hd : decode s.pending.word = .illegal why) :
    step s = .next (s.failedWith .illegalCmd) := by
  rw [step_of_coreDue hdue, coreStep, hd]
  rfl

end Step

/-- Settles O5: the end of the step is `clearPending`. -/
theorem stepRunsTheDecodedCommand : Obligations.StepRunsTheDecodedCommand := fun _ _ _ => step_of_decode_cmd

/-- Settles O3: outside the listed ranges the word is a command; inside them the decoder gives a reason instead. -/
theorem illegalWordsRaiseIllegalCmd : Obligations.IllegalWordsRaiseIllegalCmd := by
  intro s hdue w opc n unassigned countBad
  have hcmd := exists_decode_eq_cmd_iff s.pending.word
  split
  · next hbad =>
    cases hd : decode s.pending.word with
    | cmd i => exact absurd hbad (hcmd.1 ⟨i, hd⟩)
    | illegal why => exact ⟨0, step_of_decode_illegal hdue hd⟩
  · next hgood => exact hcmd.2 hgood

end Sys2Proof.Machine
end

section
/-! The commands with a count (R82, R92): a meaning sees DIN0 through the first N bytes or through the mask of N bytes
only, and hands DIN0 on unchanged. -/

namespace Sys2Proof.Machine

/-- A result with DIN0 replaced in its next state. -/
def withDin0 (v : Block) : Result → Result
  | .next t => .next { t with din0 := v }
  | .fault e => .fault e
  | .refused r => .refused r

section Partial

variable {n : Nat} {v w : Block}

theorem take_bytes128_congr (hb : ∀ j, j < n → blockByte v j = blockByte w j) :
    (bytes128 v).take n = (bytes128 w).take n := by
  apply List.ext_getElem (by simp)
  intro j hj _
  rw [List.getElem_take, List.getElem_take, bytes128_getElem, bytes128_getElem]
  exact hb j (lt_of_lt_of_le hj (List.length_take_le _ _))

theorem maskN_congr (hb : ∀ j, j < n → blockByte v j = blockByte w j) : maskN n v = maskN n w := by
  apply block_ext
  intro j hj
  rw [blockByte_maskN n v j hj, blockByte_maskN n w j hj]
  split
  · next hn => exact hb j hn
  · rfl

end Partial

section Commands

variable {s : State} {v : Block} {n : BitVec 5} (hb : ∀ j, j < count n → blockByte v j = blockByte s.din0 j)

include hb

theorem execKshAbsorb_withDin0 : execKshAbsorb n { s with din0 := v } = withDin0 v (execKshAbsorb n s) := by
  simp only [execKshAbsorb, take_bytes128_congr hb, apply_ite (withDin0 v)]
  rfl

theorem execGhUpd_withDin0 : execGhUpd n { s with din0 := v } = withDin0 v (execGhUpd n s) := by
  simp only [execGhUpd, maskN_congr hb, apply_ite (withDin0 v)]
  rfl

theorem execCbcEncf_withDin0 : execCbcEncf n { s with din0 := v } = withDin0 v (execCbcEncf n s) := by
  simp only [execCbcEncf, take_bytes128_congr hb, apply_ite (withDin0 v)]
  rfl

/-- The mask goes through the XOR with the keystream. -/
theorem execGcmEnc_withDin0 : execGcmEnc n { s with din0 := v } = withDin0 v (execGcmEnc n s) := by
  simp only [execGcmEnc, maskN_xor, maskN_congr hb, apply_ite (withDin0 v)]
  rfl

theorem execGcmDec_withDin0 : execGcmDec n { s with din0 := v } = withDin0 v (execGcmDec n s) := by
  simp only [execGcmDec, maskN_congr hb, apply_ite (withDin0 v)]
  rfl

theorem exec_withDin0 {i : Instr} (hi : i ∈ [Instr.kshAbsorb n, .ghUpd n, .cbcEncf n, .gcmEnc n, .gcmDec n]) :
    exec i { s with din0 := v } = withDin0 v (exec i s) := by
  simp only [List.mem_cons, List.not_mem_nil, or_false] at hi
  obtain rfl | rfl | rfl | rfl | rfl := hi
  · exact execKshAbsorb_withDin0 hb
  · exact execGhUpd_withDin0 hb
  · exact execCbcEncf_withDin0 hb
  · exact execGcmEnc_withDin0 hb
  · exact execGcmDec_withDin0 hb

end Commands

/-- Settles O32: the command answers as before, with the other block in DIN0. -/
theorem partialBlocksIgnoreTheRest : Obligations.PartialBlocksIgnoreTheRest := by
  intro s t v n i hi hb he
  rw [exec_withDin0 hb hi, he]
  rfl

end Sys2Proof.Machine
end

section
/-! Absorbing (R102, R106 to R108): the writes of one byte, absorbing in pieces, and the two passes of finalize. -/

namespace Sys2Proof.Machine

section Byte

variable (rom : Rom) (st : HashState) (b : Byte)

/-- The XOR lane takes its source byte from the checksum array or from the third lane (R102). -/
theorem xorSource_eq (p : Nat) :
    xorSource rom st p =
      if rom.xorSrc = .checksum then byteAt st.chk p else byteAt st.buf (laneOffset rom.lanes .state + p) := by
  cases h : rom.xorSrc <;> simp [xorSource, h]

/-- A byte of the window lies inside HBUF, whichever its lane (R101). -/
theorem laneOffset_add_lt (l : HashLanes) (a : Lane) {p : Nat} (hp : p ≤ 511) : laneOffset l a + p < 1536 := by
  have := laneOffset_spec l a
  omega

theorem laneOffset_raw_ne_xor (l : HashLanes) : laneOffset l .raw ≠ laneOffset l .xor :=
  fun h => nomatch laneOffset_injective l h

/-- HBUF after the two lane writes: the XOR lane, else the raw lane, else as before (R102). -/
theorem byteAt_absorbWrite_buf (hc : st.cur.toNat ≤ 511) (j : Nat) :
    byteAt (absorbWrite rom st b).buf j =
      if laneOffset rom.lanes .xor + st.cur.toNat = j then b ^^^ xorSource rom st st.cur.toNat
      else if laneOffset rom.lanes .raw + st.cur.toNat = j then b
      else byteAt st.buf j := by
  simp only [absorbWrite, byteAt_putByte, laneOffset_add_lt rom.lanes _ hc, and_true]

/-- HCHK after the checksum write (R102). -/
theorem byteAt_absorbWrite_chk (hc : st.cur.toNat ≤ 511) (j : Nat) :
    byteAt (absorbWrite rom st b).chk j =
      if st.cur.toNat = j then byteAt st.chk st.cur.toNat ^^^ lookup rom.hs (b ^^^ st.fb) else byteAt st.chk j := by
  simp only [absorbWrite, byteAt_putByte, Nat.lt_succ_of_le hc, and_true]

/-- HFB is the checksum byte just written (R102). -/
theorem absorbWrite_fb (hc : st.cur.toNat ≤ 511) :
    (absorbWrite rom st b).fb = byteAt (absorbWrite rom st b).chk st.cur.toNat := by
  rw [byteAt_absorbWrite_chk rom st b hc, if_pos rfl]
  rfl

/-- The 10-bit cursor does not wrap inside the window (R46). -/
theorem absorbWrite_cur_toNat (hc : st.cur.toNat ≤ 511) :
    (absorbWrite rom st b).cur.toNat = st.cur.toNat + 1 := by
  rw [absorbWrite_cur]
  bv_omega

/-- The compression trigger by the position of the byte (R103). -/
theorem absorbByte_eq (hc : st.cur.toNat ≤ 511) :
    absorbByte rom st b =
      if st.cur.toNat = 511 then compress rom (absorbWrite rom st b) else absorbWrite rom st b := by
  have hfull : (absorbWrite rom st b).cur = 512 ↔ st.cur.toNat = 511 := by
    rw [absorbWrite_cur]
    bv_omega
  simp only [absorbByte, hfull]

end Byte

/-- Settles O21: the lanes keep the two writes to HBUF apart, and the source byte is read from the state before them. -/
theorem absorbByteWrites : Obligations.AbsorbByteWrites := by
  intro rom st b hc p raw xor src w
  have hne : xor ≠ raw := fun h => laneOffset_raw_ne_xor rom.lanes (Nat.add_right_cancel h).symm
  have hbuf : ∀ j, byteAt w.buf j = if xor = j then b ^^^ src else if raw = j then b else byteAt st.buf j :=
    fun j => (byteAt_absorbWrite_buf rom st b hc j).trans (by rw [xorSource_eq])
  have hchk := byteAt_absorbWrite_chk rom st b hc
  refine ⟨?_, ?_, ?_, ?_, ?_, absorbWrite_fb rom st b hc, absorbWrite_cur_toNat rom st b hc, absorbByte_eq rom st b hc⟩
  · rw [hbuf, if_neg hne, if_pos rfl]
  · rw [hbuf, if_pos rfl]
  · intro j hraw hxor
    rw [hbuf, if_neg hxor.symm, if_neg hraw.symm]
  · exact (hchk p).trans (if_pos rfl)
  · intro j hj
    exact (hchk j).trans (if_neg hj.symm)

section Strings

variable (rom : Rom) (st : HashState)

/-- Absorbing in two chunks is absorbing at once (R106). -/
theorem absorb_append (bs cs : List Byte) : absorb rom st (bs ++ cs) = absorb rom (absorb rom st bs) cs :=
  List.foldl_append

/-- The first bytes of a block, as KSH_ABSORB takes them (R113). -/
theorem take_bytes128 {n : Nat} (hn : n ≤ 16) (v : Block) : (bytes128 v).take n = (List.range n).map (blockByte v) := by
  rw [bytes128, ← List.map_take, List.take_range, Nat.min_eq_left hn]

/-- The pad fills the window, so its last byte compresses (R107). -/
theorem finalizePad_cur (hc : st.cur.toNat ≤ 511) : (finalizePad rom st).cur = 0 := by
  apply BitVec.eq_of_toNat_eq
  rw [finalizePad, absorb_cur rom _ st hc, padBytes, List.length_replicate, Nat.add_sub_cancel' (by omega)]
  rfl

/-- The pad byte is the number of pad bytes modulo 256 (R107). -/
theorem padBytes_eq :
    padBytes st = List.replicate (512 - st.cur.toNat) (BitVec.ofNat 8 ((512 - st.cur.toNat) % 256)) := by
  rw [padBytes]
  congr 1
  bv_omega

end Strings

end Sys2Proof.Machine
end

section
/-! The compression pass (R104): what one pass over the buffer leaves at each byte, and the rounds one after another. -/

namespace Sys2Proof.Machine

section Pass

variable (hs : Vector Byte 256)

/-- Each byte is folded with HS of the byte before it, the first with HS of the accumulator (R104). -/
theorem foldPass_getD (t : Byte) (xs : List Byte) (k : Nat) (hk : k < xs.length) :
    (foldPass hs t xs).2.getD k 0 = xs.getD k 0 ^^^ lookup hs ((t :: (foldPass hs t xs).2).getD k 0) := by
  induction xs generalizing t k with
  | nil => exact absurd hk (Nat.not_lt_zero k)
  | cons x xs ih =>
    cases k with
    | zero => rfl
    | succ k => exact ih _ k (Nat.lt_of_succ_lt_succ hk)

/-- A pass leaves the last byte in the accumulator (R104). -/
theorem foldPass_fst (t : Byte) (xs : List Byte) :
    (foldPass hs t xs).1 = (t :: (foldPass hs t xs).2).getD xs.length 0 := by
  induction xs generalizing t with
  | nil => rfl
  | cons x xs ih => exact ih _

/-- The accumulator and the bytes before round r, from t = 0 (R104). -/
def roundState (xs : List Byte) : Nat → Byte × List Byte
  | 0 => (0, xs)
  | r + 1 =>
    let p := foldPass hs (roundState xs r).1 (roundState xs r).2
    (p.1 + BitVec.ofNat 8 r, p.2)

theorem roundState_length (xs : List Byte) (r : Nat) : (roundState hs xs r).2.length = xs.length := by
  induction r with
  | zero => rfl
  | succ r ih => exact (foldPass_length hs _ _).trans ih

/-- In round r too each byte is folded with HS of the byte before it, the first with HS of the accumulator (R104). -/
theorem roundState_succ_getD (xs : List Byte) (r k : Nat) (hk : k < xs.length) :
    (roundState hs xs (r + 1)).2.getD k 0 = (roundState hs xs r).2.getD k 0
      ^^^ lookup hs (((roundState hs xs r).1 :: (roundState hs xs (r + 1)).2).getD k 0) :=
  foldPass_getD hs _ _ k (by rwa [roundState_length])

/-- The accumulator advances to the last byte plus the round index (R104). -/
theorem roundState_succ_fst (xs : List Byte) (r : Nat) :
    (roundState hs xs (r + 1)).1 =
      ((roundState hs xs r).1 :: (roundState hs xs (r + 1)).2).getD xs.length 0 + BitVec.ofNat 8 r := by
  rw [← roundState_length hs xs r]
  exact congrArg (· + BitVec.ofNat 8 r) (foldPass_fst hs _ _)

/-- The rounds of the model, from any round on, run along `roundState`. -/
theorem compressRounds_roundState (xs : List Byte) (n r : Nat) :
    compressRounds hs n r (roundState hs xs r).1 (roundState hs xs r).2 = (roundState hs xs (r + n)).2 := by
  induction n generalizing r with
  | zero => rfl
  | succ n ih =>
    rw [← Nat.add_assoc, Nat.add_right_comm]
    exact ih (r + 1)

theorem compressRounds_zero (xs : List Byte) (n : Nat) : compressRounds hs n 0 0 xs = (roundState hs xs n).2 :=
  (compressRounds_roundState hs xs n 0).trans (by rw [Nat.zero_add])

theorem byteAt_eq_getD {n : Nat} (v : Vector Byte n) (k : Nat) : byteAt v k = v.toList.getD k 0 := by
  rw [byteAt, List.getD_eq_getElem?_getD, Vector.getElem?_toList]

theorem compress_buf (rom : Rom) (st : HashState) : (compress rom st).buf = compressBuf rom.hs st.buf := rfl

/-- The compressed buffer is what the 514 rounds leave (R104). -/
theorem toList_compressBuf (v : Vector Byte 1536) : (compressBuf hs v).toList = (roundState hs v.toList 514).2 := by
  unfold compressBuf
  rw [Vector.toList_mk, List.toList_toArray, compressRounds_zero]

end Pass

/-- Settles O22: the accumulators and buffers are those of `roundState`. -/
theorem compressionFoldsTheBuffer : Obligations.CompressionFoldsTheBuffer := by
  intro rom st
  have hlen : st.buf.toList.length = 1536 := Vector.length_toList
  have hfold := fun r k (hk : k < 1536) => roundState_succ_getD rom.hs st.buf.toList r k (hk.trans_eq hlen.symm)
  have hacc := roundState_succ_fst rom.hs st.buf.toList
  rw [hlen] at hacc
  refine ⟨fun r => (roundState rom.hs st.buf.toList r).1, fun r k => (roundState rom.hs st.buf.toList r).2.getD k 0,
    rfl, ?_, ?_, ?_, rfl, rfl, rfl⟩
  · exact fun k _ => (byteAt_eq_getD st.buf k).symm
  · exact fun r _ => ⟨hfold r 0 (by decide), fun k hk => hfold r (k + 1) (Nat.succ_lt_succ hk), hacc r⟩
  · intro k _
    rw [byteAt_eq_getD, compress_buf, toList_compressBuf]

end Sys2Proof.Machine
end

section
/-! Big-endian byte strings (R13): the bits of a value and its bytes, and the digest as 64 words (R111). -/

namespace Sys2Proof.Machine

/-- Counted from the last byte, bit i of the value is bit i mod 8 of byte i / 8 (R13). -/
theorem getLsbD_beValue (n : Nat) (bs : List Byte) (i : Nat) (hi : i < n) :
    (beValue n bs).getLsbD i = (bs.reverse.getD (i / 8) 0).getLsbD (i % 8) := by
  induction bs using List.reverseRecOn generalizing i with
  | nil => simp [beValue]
  | append_singleton bs b ih =>
    have hcons : beValue n (bs ++ [b]) = (beValue n bs <<< 8) ||| b.setWidth n := by simp [beValue]
    rw [hcons, BitVec.getLsbD_or, BitVec.getLsbD_shiftLeft, BitVec.getLsbD_setWidth, List.reverse_concat]
    by_cases h8 : i < 8
    · simp [hi, h8, Nat.div_eq_of_lt h8, Nat.mod_eq_of_lt h8]
    · have hdiv : i / 8 = (i - 8) / 8 + 1 := by omega
      have hmod : i % 8 = (i - 8) % 8 := by omega
      rw [hdiv, hmod, List.getD_cons_succ, ← ih (i - 8) (by omega), b.getLsbD_of_ge i (by omega)]
      simp [hi, h8]

/-- Byte i of the value of as many bytes as the word holds (R13). -/
theorem extractLsb'_beValue {n : Nat} (bs : List Byte) (hn : n = 8 * bs.length) (i : Nat) (hi : i < bs.length) :
    (beValue n bs).extractLsb' (n - 8 - 8 * i) 8 = bs[i] := by
  apply BitVec.eq_of_getLsbD_eq
  intro j hj
  have hdiv : (n - 8 - 8 * i + j) / 8 = bs.length - 1 - i := by omega
  have hmod : (n - 8 - 8 * i + j) % 8 = j := by omega
  have hrev : bs.reverse.getD (bs.length - 1 - i) 0 = bs[i] := by
    rw [List.getD_eq_getElem _ _ (by rw [List.length_reverse]; omega), List.getElem_reverse]
    congr 1
    omega
  rw [BitVec.getLsbD_extractLsb', getLsbD_beValue _ _ _ (by omega), hdiv, hmod, hrev, decide_eq_true hj, Bool.true_and]

theorem bytes64_be64 (bs : List Byte) (hb : bs.length = 8) : bytes64 (be64 bs) = bs := by
  apply List.ext_getElem (by rw [bytes64_length, hb])
  intro i _ hi
  simpa [bytes64, be64] using extractLsb'_beValue (n := 64) bs (by rw [hb]) i hi

/-- The bytes of word i of the schedule are bytes 8i..8i+7 of HBUF (R109, R111). -/
theorem bytes64_scheduleOf_digest (st : HashState) (i : Fin 64) :
    bytes64 (scheduleOf (digest st))[i] = (List.range 8).map fun j => byteAt st.buf (8 * i.val + j) := by
  have hword : (scheduleOf (digest st))[i] = be64 (((digest st).drop (8 * i.val)).take 8) := by
    simp [scheduleOf]
  have hlen : (((digest st).drop (8 * i.val)).take 8).length = 8 := by
    simp only [digest, List.length_take, List.length_drop, Vector.length_toList]
    omega
  rw [hword, bytes64_be64 _ hlen]
  apply List.ext_getElem (by rw [hlen, List.length_map, List.length_range])
  intro j hj _
  have hin : 8 * i.val + j < 1536 := by omega
  simp [digest, byteAt, hin]

end Sys2Proof.Machine
end

section
/-! The hash and key commands (R112 to R118): the next state of each in its phase, and the sequence that loads a
password. -/

namespace Sys2Proof.Machine

/-- Settles O16: neither command has a guard, so each equation is its meaning written out. -/
theorem erasureCommandsComplete : Obligations.ErasureCommandsComplete :=
  fun _ => ⟨rfl, rfl⟩

section Commands

variable {s : State} {n : BitVec 5}

theorem exec_kshAbsorb (hn : n.toNat ≤ 16) (hp : s.hphase = .absorbing) :
    exec (.kshAbsorb n) s =
      .next { s with hash := absorb s.rom s.hash ((bytes128 s.din0).take n.toNat) }.complete := by
  have hlegal : ¬ (Instr.kshAbsorb n).legal = false := by simp [Instr.legal, hn]
  exact (if_neg hlegal).trans (if_neg (not_not.2 hp))

theorem exec_kshFinal (hp : s.hphase = .absorbing) :
    exec .kshFinal s = .next { s with hash := finalize s.rom s.hash, hphase := .final }.complete :=
  if_neg (not_not.2 hp)

theorem exec_kshLoadkey (hp : s.hphase = .final) :
    exec .kshLoadkey s =
      .next { s with key := scheduleOf (digest s.hash), hash := HashState.fresh, hphase := .consumed }.complete :=
  if_neg (not_not.2 hp)

end Commands

/-- Settles O17: bytes 0..N-1 as KSH_ABSORB takes them are the map of `blockByte` over 0..N-1, folded in order. -/
theorem kshAbsorbCompletes : Obligations.KshAbsorbCompletes := by
  intro s n hn hp
  rw [exec_kshAbsorb hn hp, take_bytes128 hn, absorb, List.foldl_map]
  rfl

/-- Settles O18: the two folds are the two steps of finalize. -/
theorem kshFinalCompletes : Obligations.KshFinalCompletes := by
  intro s hp hc n padded done
  have hpadded : finalizePad s.rom s.hash = padded := by rw [finalizePad, padBytes_eq]; rfl
  have hdone : finalize s.rom s.hash = done := by rw [finalize, hpadded]; rfl
  refine ⟨?_, ?_, ?_⟩
  · rw [exec_kshFinal hp, hdone]
    rfl
  · rw [← hpadded, finalizePad_cur s.rom s.hash hc]
  · rw [← hdone, finalize_cur s.rom s.hash hc]

/-- Settles O19: the schedule is `scheduleOf` of the digest, whose words have the bytes of HBUF[0..512). -/
theorem kshLoadkeyCompletes : Obligations.KshLoadkeyCompletes :=
  fun s hp => ⟨scheduleOf (digest s.hash), bytes64_scheduleOf_digest s.hash, exec_kshLoadkey hp⟩

/-- A command that completes is issued by its next state (R118, R178, R210). -/
theorem issue_of_exec {s t : State} {v : Block} {i : Instr} (he : exec i { s with din0 := v } = .next t) :
    issue v i s = t := by
  rw [issue, he]

theorem issue_kshFinal {s : State} (v : Block) (hp : s.hphase = .absorbing) :
    issue v .kshFinal s = { s with din0 := v, hash := finalize s.rom s.hash, hphase := .final }.complete :=
  issue_of_exec (exec_kshFinal hp)

theorem issue_kshLoadkey {s : State} (v : Block) (hp : s.hphase = .final) :
    issue v .kshLoadkey s =
      { s with din0 := v, key := scheduleOf (digest s.hash), hash := HashState.fresh, hphase := .consumed }.complete :=
  issue_of_exec (exec_kshLoadkey hp)

/-- The machine is absorbing and has taken in exactly `bs` since KSH_INIT. -/
structure Absorbed (rom : Rom) (bs : List Byte) (s : State) : Prop where
  rom_eq : s.rom = rom
  hphase : s.hphase = .absorbing
  hash : s.hash = absorb rom HashState.fresh bs

theorem Absorbed.of_kshInit (s : State) : Absorbed s.rom [] (issue 0 .kshInit s) :=
  ⟨rfl, rfl, rfl⟩

theorem Absorbed.kshAbsorb {rom : Rom} {bs : List Byte} {s : State} (hs : Absorbed rom bs s) (v : Block) {n : BitVec 5}
    (hn : n.toNat ≤ 16) : Absorbed rom (bs ++ (bytes128 v).take n.toNat) (issue v (.kshAbsorb n) s) := by
  rw [issue_of_exec (exec_kshAbsorb (s := { s with din0 := v }) hn hs.hphase)]
  refine ⟨hs.rom_eq, hs.hphase, ?_⟩
  rw [absorb_append, ← hs.hash, ← hs.rom_eq]
  rfl

/-- Any sequence of chunks absorbs their concatenation (R106). -/
theorem Absorbed.chunks {rom : Rom} (chunks : List (Block × BitVec 5)) (hn : ∀ c ∈ chunks, c.2.toNat ≤ 16)
    {bs : List Byte} {s : State} (hs : Absorbed rom bs s) :
    Absorbed rom (bs ++ chunks.flatMap fun c => (bytes128 c.1).take c.2.toNat)
      (chunks.foldl (fun st c => issue c.1 (.kshAbsorb c.2) st) s) := by
  induction chunks generalizing bs s with
  | nil => simpa using hs
  | cons c cs ih =>
    obtain ⟨hc, hcs⟩ := List.forall_mem_cons.1 hn
    rw [List.flatMap_cons, ← List.append_assoc]
    exact ih hcs (hs.kshAbsorb c.1 hc)

/-- Settles O23: KSH_FINAL and KSH_LOADKEY after the concatenated chunks are `ksh` and `scheduleOf`. -/
theorem scheduleIgnoresChunking : Obligations.ScheduleIgnoresChunking := by
  intro s chunks hn s1 s3 pw
  obtain ⟨hrom, hphase, hhash⟩ : Absorbed s.rom pw s1 := (Absorbed.of_kshInit s).chunks chunks hn
  have hfinal := issue_kshFinal 0 hphase
  have hload : s3 = _ := issue_kshLoadkey 0 (s := issue 0 .kshFinal s1) (by rw [hfinal]; rfl)
  rw [hload]
  refine ⟨?_, rfl, rfl, rfl⟩
  show scheduleOf (digest (issue 0 .kshFinal s1).hash) = _
  rw [hfinal, State.complete_hash, hrom, hhash, ksh]

end Sys2Proof.Machine
end

section
/-! The cipher tables and the round function (R130 to R132): what a table entry packs, and the bytes of f. -/

namespace Sys2Proof.Machine

section Tables

variable {hi lo : BitVec 4 → BitVec 4}

/-- The entry as R130 writes it, with shifts and masks. -/
theorem packedEntry_eq_or (i : Byte) :
    packedEntry hi lo i =
      ((hi ((i >>> 4).setWidth 4)).setWidth 8 <<< 4) ||| (lo ((i &&& 0xF).setWidth 4)).setWidth 8 := by
  have hhigh : (i >>> 4).setWidth 4 = i.extractLsb' 4 4 := BitVec.setWidth_ushiftRight_eq_extractLsb
  have hlow : (i &&& 0xF).setWidth 4 = i.extractLsb' 0 4 := by
    rw [BitVec.setWidth_and, ← BitVec.setWidth_eq_extractLsb' (by decide)]
    exact BitVec.and_allOnes
  rw [hhigh, hlow, packedEntry, BitVec.append_def, BitVec.shiftLeftZeroExtend_eq, BitVec.setWidth'_eq]

theorem packedEntry_high (i : Byte) : (packedEntry hi lo i).extractLsb' 4 4 = hi (i.extractLsb' 4 4) :=
  BitVec.extractLsb'_append_eq_left

theorem packedEntry_low (i : Byte) : (packedEntry hi lo i).extractLsb' 0 4 = lo (i.extractLsb' 0 4) :=
  BitVec.extractLsb'_append_eq_right

theorem append_nibbles (i : Byte) : i.extractLsb' 4 4 ++ i.extractLsb' 0 4 = i :=
  BitVec.extractLsb'_append_extractLsb' (w := 4) (len := 4)

/-- A packed entry fixes both nibbles of its index. -/
theorem packedEntry_injective (hhi : hi.Injective) (hlo : lo.Injective) : (packedEntry hi lo).Injective := by
  intro i j hij
  have hhigh : i.extractLsb' 4 4 = j.extractLsb' 4 4 :=
    hhi (by rw [← packedEntry_high (hi := hi) (lo := lo), hij, packedEntry_high])
  have hlow : i.extractLsb' 0 4 = j.extractLsb' 0 4 :=
    hlo (by rw [← packedEntry_low (hi := hi) (lo := lo), hij, packedEntry_low])
  rw [← append_nibbles i, ← append_nibbles j, hhigh, hlow]

theorem lookup_packedTable : lookup (packedTable hi lo) = packedEntry hi lo := by
  funext i
  simp [lookup, packedTable]

end Tables

theorem lookup_cipherTables (p : Fin 16 → BitVec 4 → BitVec 4) (assign : Fin 8 → Fin 16 × Fin 16) (j : Fin 8) :
    lookup (cipherTables p assign)[j] = packedEntry (p (assign j).1) (p (assign j).2) := by
  rw [← lookup_packedTable]
  simp [cipherTables]

/-- Settles O24: a table that packs two permutations is injective on the bytes, and the bytes are finitely many. -/
theorem cipherTablesArePermutations : Obligations.CipherTablesArePermutations := by
  intro p assign j
  rw [lookup_cipherTables]
  exact ⟨packedEntry_eq_or,
    Finite.injective_iff_bijective.1 (packedEntry_injective (p _).injective (p _).injective)⟩

theorem rotl64_eq_rotateLeft (x : Word) {r : Nat} (hr : r < 64) : rotl64 x r = x.rotateLeft r := by
  rw [BitVec.rotateLeft_def, Nat.mod_eq_of_lt hr, rotl64]

theorem rotateRight_rotl64 (x : Word) {r : Nat} (hr : r < 64) : (rotl64 x r).rotateRight r = x := by
  apply BitVec.eq_of_getLsbD_eq
  intro i hi
  rw [rotl64_eq_rotateLeft x hr, BitVec.getLsbD_rotateRight_of_lt hr, BitVec.getLsbD_rotateLeft_of_le hr,
    BitVec.getLsbD_rotateLeft_of_le hr]
  by_cases hlow : i < 64 - r
  · have hin : r + i < 64 := by omega
    simp [hlow, hin]
  · have hwrap : i - (64 - r) < r := by omega
    have hback : 64 - r + (i - (64 - r)) = i := by omega
    simp [hlow, hi, hwrap, hback]

/-- Settles O25: rotating back leaves the eight table entries side by side, and each is reached by skipping those to its
right. -/
theorem roundFunctionSubstitutesAndRotates : Obligations.RoundFunctionSubstitutesAndRotates := by
  intro ct x j
  rw [roundF, rotateRight_rotl64 _ (by decide)]
  fin_cases j
  all_goals repeat refine extractLsb'_append_skip (by decide) ?_
  · exact BitVec.extractLsb'_eq_self
  all_goals exact extractLsb'_append_last

end Sys2Proof.Machine
end

section
/-! The rounds of the cipher (R133 to R136): the words after each round, and the rounds that undo a run of rounds. -/

namespace Sys2Proof.Machine

theorem encrypt_eq (ct : CipherTables) (k : Schedule) (x : Block) : encrypt ct k x = runRounds ct (encKeys k) x := by
  rw [encrypt]

theorem decrypt_eq (ct : CipherTables) (k : Schedule) (x : Block) : decrypt ct k x = runRounds ct (decKeys k) x := by
  rw [decrypt]

section Rounds

variable {ct : CipherTables}

/-- The pair (a, b) after the first `i` rounds on a block (R133). -/
def roundPair (ct : CipherTables) (ks : List (Word × Word)) (v : Block) (i : Nat) : Word × Word :=
  (ks.take i).foldl (cipherRound ct) (hi64 v, lo64 v)

theorem roundPair_succ (ks : List (Word × Word)) (v : Block) {i : Nat} (hi : i < ks.length) :
    roundPair ct ks v (i + 1) = cipherRound ct (roundPair ct ks v i) ks[i] := by
  rw [roundPair, List.take_succ_eq_append_getElem hi, List.foldl_concat, roundPair]

theorem runRounds_eq_roundPair (ks : List (Word × Word)) (v : Block) :
    runRounds ct ks v = (roundPair ct ks v ks.length).2 ++ (roundPair ct ks v ks.length).1 := by
  rw [roundPair, List.take_length]
  rfl

/-- The 32 subkey pairs whose members are `k1` and `k2`, the form of both key orders (R134, R135). -/
def keyPairs (k1 k2 : Fin 32 → Word) : List (Word × Word) := (List.finRange 32).map fun i => (k1 i, k2 i)

theorem encKeys_eq_keyPairs (k : Schedule) :
    encKeys k = keyPairs (fun i => k[2 * i.val]) (fun i => k[2 * i.val + 1]) := rfl

theorem decKeys_eq_keyPairs (k : Schedule) :
    decKeys k = keyPairs (fun i => k[63 - 2 * i.val]) (fun i => k[62 - 2 * i.val]) := rfl

@[simp] theorem keyPairs_length (k1 k2 : Fin 32 → Word) : (keyPairs k1 k2).length = 32 := by simp [keyPairs]

theorem keyPairs_getElem (k1 k2 : Fin 32 → Word) (i : Nat) (hi : i < (keyPairs k1 k2).length) :
    (keyPairs k1 k2)[i] = (k1 ⟨i, keyPairs_length k1 k2 ▸ hi⟩, k2 ⟨i, keyPairs_length k1 k2 ▸ hi⟩) := by
  simp [keyPairs]

theorem roundPair_keyPairs_succ (k1 k2 : Fin 32 → Word) (v : Block) (i : Fin 32) :
    roundPair ct (keyPairs k1 k2) v (i.val + 1) =
      cipherRound ct (roundPair ct (keyPairs k1 k2) v i.val) (k1 i, k2 i) := by
  rw [roundPair_succ _ v (by rw [keyPairs_length]; exact i.isLt), keyPairs_getElem]

/-- The words a and b after each round, and the swapped output, for any two sequences of subkeys. -/
theorem runRounds_keyPairs (k1 k2 : Fin 32 → Word) (v : Block) :
    ∃ a b : Nat → Word,
      a 0 = hi64 v ∧ b 0 = lo64 v
      ∧ (∀ i : Fin 32, b (i.val + 1) = b i.val ^^^ roundF ct (a i.val + k1 i)
        ∧ a (i.val + 1) = a i.val ^^^ roundF ct (b (i.val + 1) + k2 i))
      ∧ runRounds ct (keyPairs k1 k2) v = b 32 ++ a 32 := by
  refine ⟨fun i => (roundPair ct (keyPairs k1 k2) v i).1, fun i => (roundPair ct (keyPairs k1 k2) v i).2,
    rfl, rfl, fun i => ?_, ?_⟩
  · simp only [roundPair_keyPairs_succ, cipherRound, and_self]
  · rw [runRounds_eq_roundPair, keyPairs_length]

/-! The inverse (R136) -/

/-- A round with its two subkeys exchanged, on the exchanged pair, undoes the round: first f(b + second) cancels in a, and
then, with a restored, f(a + first) cancels in b. -/
theorem cipherRound_swap_cipherRound (ab k : Word × Word) :
    cipherRound ct (cipherRound ct ab k).swap k.swap = ab.swap := by
  simp [cipherRound, Prod.swap]

/-- The subkey pairs that undo `ks`: the same pairs exchanged, last one first. -/
def inverseKeys (ks : List (Word × Word)) : List (Word × Word) := (ks.map Prod.swap).reverse

theorem inverseKeys_cons (k : Word × Word) (ks : List (Word × Word)) :
    inverseKeys (k :: ks) = inverseKeys ks ++ [k.swap] := by
  simp [inverseKeys]

theorem inverseKeys_inverseKeys (ks : List (Word × Word)) : inverseKeys (inverseKeys ks) = ks := by
  simp [inverseKeys]

theorem foldl_inverseKeys (ks : List (Word × Word)) (ab : Word × Word) :
    (inverseKeys ks).foldl (cipherRound ct) (ks.foldl (cipherRound ct) ab).swap = ab.swap := by
  induction ks generalizing ab with
  | nil => rfl
  | cons k ks ih => rw [List.foldl_cons, inverseKeys_cons, List.foldl_concat, ih, cipherRound_swap_cipherRound]

/-- The output of a run is its last pair exchanged, which is where the inverse run starts. -/
theorem runRounds_inverseKeys (ks : List (Word × Word)) (v : Block) :
    runRounds ct (inverseKeys ks) (runRounds ct ks v) = v := by
  have hfold := foldl_inverseKeys (ct := ct) ks (hi64 v, lo64 v)
  rw [Prod.swap] at hfold
  simp [runRounds, hfold]

/-- K[63-2i] is the second subkey of encryption round 31-i and K[62-2i] its first. -/
theorem decKeys_eq_inverseKeys (k : Schedule) : decKeys k = inverseKeys (encKeys k) := by
  rw [decKeys_eq_keyPairs, encKeys_eq_keyPairs]
  apply List.ext_getElem (by simp [inverseKeys])
  intro i hi _
  rw [keyPairs_length] at hi
  have hsecond : 63 - 2 * i = 2 * (31 - i) + 1 := by omega
  have hfirst : 62 - 2 * i = 2 * (31 - i) := by omega
  simp [inverseKeys, keyPairs_getElem, hsecond, hfirst]

end Rounds

/-- Settles O59: both directions run `keyPairs`, each with its own order of subkeys. -/
theorem cipherRunsTheRounds : Obligations.CipherRunsTheRounds := by
  intro ct k x
  rw [encrypt_eq, decrypt_eq, encKeys_eq_keyPairs, decKeys_eq_keyPairs]
  exact ⟨runRounds_keyPairs _ _ x, runRounds_keyPairs _ _ x⟩

/-- Settles O26: the subkeys of decryption undo those of encryption, and undoing twice is the run itself. -/
theorem decryptUndoesEncrypt : Obligations.DecryptUndoesEncrypt := by
  intro ct k x
  simp only [encrypt_eq, decrypt_eq, decKeys_eq_inverseKeys]
  refine ⟨runRounds_inverseKeys _ x, ?_⟩
  simpa only [inverseKeys_inverseKeys] using runRounds_inverseKeys (ct := ct) (inverseKeys (encKeys k)) x

/-- Settles O27: neither command has a guard, so each equation is its meaning written out. -/
theorem blockCommandsComplete : Obligations.BlockCommandsComplete := fun _ => ⟨rfl, rfl⟩

end Sys2Proof.Machine
end

section
/-! Multiplication in GF(2^128) (R150, R153): linear in both arguments, and on the blocks with a single bit set an
iterated shift of the other argument. Every block is a sum of single bits, so the laws of gfmul follow from these two
facts. -/

namespace Sys2Proof.Machine

/-! The blocks with one bit set -/

/-- The block with only bit 127-k set, the field element x^k (R153); 0 past the last bit. -/
def singleBit (k : Nat) : Block := (0x80000000000000000000000000000000 : Block) >>> k

/-- The shift may be taken on the number before it becomes a block, as the statement of R150's values does. -/
theorem natCast_shiftRight_eq_singleBit (k : Nat) :
    ((0x80000000000000000000000000000000 >>> k : Nat) : Block) = singleBit k := by
  have hlt : 0x80000000000000000000000000000000 >>> k < 2 ^ 128 :=
    (Nat.shiftRight_le _ k).trans_lt (by decide)
  apply BitVec.eq_of_toNat_eq
  rw [BitVec.natCast_eq_ofNat, BitVec.toNat_ofNat, Nat.mod_eq_of_lt hlt, singleBit, BitVec.toNat_ushiftRight]
  rfl

theorem getMsbD_singleBit (k i : Nat) : (singleBit k).getMsbD i = (decide (i = k) && decide (k < 128)) := by
  have htop : (0x80000000000000000000000000000000 : Block) = BitVec.intMin 128 := by decide
  rw [singleBit, htop, BitVec.getMsbD_ushiftRight, BitVec.getMsbD_intMin]
  grind

/-- Shifting left moves the bit back up, unless it has been shifted out already (R150). -/
theorem singleBit_succ_shiftLeft {k : Nat} (hk : k + 1 < 128) : singleBit (k + 1) <<< 1 = singleBit k := by
  apply BitVec.eq_of_getMsbD_eq
  intro i hi
  simp only [BitVec.getMsbD_shiftLeft, getMsbD_singleBit]
  grind

/-- A block whose bits from index m on are clear has a property that 0 and the single bits have and that XOR keeps. -/
theorem block_induction_leading {P : Block → Prop} (zero : P 0) (xor : ∀ x y, P x → P y → P (x ^^^ y))
    (single : ∀ k, k < 128 → P (singleBit k)) (m : Nat) (hm : m ≤ 128) (x : Block)
    (hx : ∀ i, m ≤ i → x.getMsbD i = false) : P x := by
  induction m generalizing x with
  | zero =>
    have h0 : x = 0 := BitVec.eq_of_getMsbD_eq fun i _ => by simpa using hx i (Nat.zero_le i)
    exact h0 ▸ zero
  | succ m ih =>
    by_cases hbit : x.getMsbD m = true
    · have hclear : P (x ^^^ singleBit m) := ih (by omega) _ fun i hi => by
        rw [BitVec.getMsbD_xor, getMsbD_singleBit]
        grind
      have hsum : x ^^^ singleBit m ^^^ singleBit m = x := by simp
      exact hsum ▸ xor _ _ hclear (single m hm)
    · exact ih (by omega) x fun i hi => by grind

/-- Every block is a XOR of single bits. -/
theorem block_induction {P : Block → Prop} (zero : P 0) (xor : ∀ x y, P x → P y → P (x ^^^ y))
    (single : ∀ k, k < 128 → P (singleBit k)) (x : Block) : P x :=
  block_induction_leading zero xor single 128 le_rfl x fun _ hi => BitVec.getMsbD_of_ge x _ hi

/-! A bit times a block -/

/-- A coefficient in GF(2) times a block: what R150 adds when the bit it tests is `b`. -/
def bitTimes (b : Bool) (v : Block) : Block := if b then v else 0

@[simp] theorem bitTimes_true (v : Block) : bitTimes true v = v := rfl

@[simp] theorem bitTimes_false (v : Block) : bitTimes false v = 0 := rfl

theorem xor_bitTimes_false (z v : Block) : z ^^^ bitTimes false v = z := BitVec.xor_zero

theorem bitTimes_bit_xor (a b : Bool) (v : Block) : bitTimes (a ^^ b) v = bitTimes a v ^^^ bitTimes b v := by
  cases a <;> cases b <;> simp

theorem bitTimes_block_xor (b : Bool) (v w : Block) : bitTimes b (v ^^^ w) = bitTimes b v ^^^ bitTimes b w := by
  cases b <;> simp

/-! The reduced shift (R150) -/

theorem gfShift_eq (v : Block) : gfShift v = (v >>> 1) ^^^ bitTimes (v.getLsbD 0) gfReduction := by
  unfold gfShift
  cases v.getLsbD 0 <;> simp

theorem gfShift_xor (v w : Block) : gfShift (v ^^^ w) = gfShift v ^^^ gfShift w := by
  simp only [gfShift_eq, BitVec.ushiftRight_xor_distrib, BitVec.getLsbD_xor, bitTimes_bit_xor]
  ac_rfl

theorem gfShift_singleBit {k : Nat} (hk : k + 1 < 128) : gfShift (singleBit k) = singleBit (k + 1) := by
  have hlow : (singleBit k).getLsbD 0 = false := by
    rw [BitVec.getLsbD_eq_getMsbD, getMsbD_singleBit]
    grind
  rw [gfShift_eq, hlow, xor_bitTimes_false, singleBit, singleBit, BitVec.shiftRight_add]

/-- No 1 is shifted out of a single bit before bit 0, so the shifts add up. -/
theorem gfShift_iterate_singleBit {k : Nat} (hk : k < 128) : gfShift^[k] (singleBit 0) = singleBit k := by
  induction k with
  | zero => rfl
  | succ k ih => rw [Function.iterate_succ_apply', ih (by omega), gfShift_singleBit hk]

/-! The loop of R150 -/

theorem gfLoop_succ (n : Nat) (z v x : Block) :
    gfLoop (n + 1) z v x = gfLoop n (z ^^^ bitTimes (x.getLsbD 127) v) (gfShift v) (x <<< 1) := by
  rw [gfLoop]
  cases x.getLsbD 127 <;> simp

theorem gfLoop_zero_right (n : Nat) (z v : Block) : gfLoop n z v 0 = z := by
  induction n generalizing v with
  | zero => rfl
  | succ n ih =>
    have hbit : (0 : Block).getLsbD 127 = false := by decide
    have hrest : (0 : Block) <<< 1 = 0 := BitVec.zero_shiftLeft 1
    rw [gfLoop_succ, hbit, xor_bitTimes_false, hrest]
    exact ih (gfShift v)

/-- With X fixed, the loop is linear in the accumulator and Y together. -/
theorem gfLoop_xor_shifted (n : Nat) (z z' v v' x : Block) :
    gfLoop n (z ^^^ z') (v ^^^ v') x = gfLoop n z v x ^^^ gfLoop n z' v' x := by
  induction n generalizing z z' v v' x with
  | zero => rfl
  | succ n ih =>
    simp only [gfLoop_succ, gfShift_xor, bitTimes_block_xor, ← ih]
    congr 1
    ac_rfl

/-- With Y fixed, the loop is linear in the accumulator and X together. -/
theorem gfLoop_xor_remaining (n : Nat) (z z' v x x' : Block) :
    gfLoop n (z ^^^ z') v (x ^^^ x') = gfLoop n z v x ^^^ gfLoop n z' v x' := by
  induction n generalizing z z' v x x' with
  | zero => rfl
  | succ n ih =>
    simp only [gfLoop_succ, BitVec.shiftLeft_xor_distrib, BitVec.getLsbD_xor, bitTimes_bit_xor, ← ih]
    congr 1
    ac_rfl

/-- The single bit reaches the top after k shifts, and then the accumulator takes Y as it stands. -/
theorem gfLoop_singleBit {n k : Nat} (hkn : k < n) (hk : k < 128) (v : Block) :
    gfLoop n 0 v (singleBit k) = gfShift^[k] v := by
  induction k generalizing n v with
  | zero =>
    obtain ⟨n, rfl⟩ := Nat.exists_eq_add_one.2 hkn
    have htop : (singleBit 0).getLsbD 127 = true := by decide
    have hrest : singleBit 0 <<< 1 = 0 := by decide
    rw [gfLoop_succ, htop, hrest, gfLoop_zero_right, bitTimes_true]
    exact BitVec.zero_xor
  | succ k ih =>
    obtain ⟨n, rfl⟩ := Nat.exists_eq_add_one.2 (Nat.zero_lt_of_lt hkn)
    have htop : (singleBit (k + 1)).getLsbD 127 = false := by
      rw [BitVec.getLsbD_eq_getMsbD, getMsbD_singleBit]
      simp
    rw [gfLoop_succ, htop, xor_bitTimes_false, singleBit_succ_shiftLeft hk, Function.iterate_succ_apply]
    exact ih (Nat.lt_of_succ_lt_succ hkn) (Nat.lt_of_succ_lt hk) (gfShift v)

/-! gfmul (R150, R153) -/

theorem gfmul_eq (x y : Block) : gfmul x y = gfLoop 128 0 y x := by
  rw [gfmul]

theorem gfmul_xor_left (x y z : Block) : gfmul (x ^^^ y) z = gfmul x z ^^^ gfmul y z := by
  simpa [gfmul_eq] using gfLoop_xor_remaining 128 0 0 z x y

theorem gfmul_xor_right (x y z : Block) : gfmul x (y ^^^ z) = gfmul x y ^^^ gfmul x z := by
  simpa [gfmul_eq] using gfLoop_xor_shifted 128 0 0 y z x

theorem gfmul_zero_left (y : Block) : gfmul 0 y = 0 := by
  rw [gfmul_eq, gfLoop_zero_right]

theorem gfmul_zero_right (x : Block) : gfmul x 0 = 0 := by
  simpa using gfmul_xor_right x 0 0

theorem gfmul_singleBit {k : Nat} (hk : k < 128) (y : Block) : gfmul (singleBit k) y = gfShift^[k] y := by
  rw [gfmul_eq, gfLoop_singleBit hk hk]

/-- Both products are the same number of shifts of the top bit. -/
theorem gfmul_singleBit_comm {j k : Nat} (hj : j < 128) (hk : k < 128) :
    gfmul (singleBit j) (singleBit k) = gfmul (singleBit k) (singleBit j) := by
  rw [gfmul_singleBit hj, gfmul_singleBit hk, ← gfShift_iterate_singleBit hj, ← gfShift_iterate_singleBit hk,
    ← Function.iterate_add_apply, ← Function.iterate_add_apply, Nat.add_comm]

theorem gfmul_comm (x y : Block) : gfmul x y = gfmul y x := by
  induction x using block_induction with
  | zero => rw [gfmul_zero_left, gfmul_zero_right]
  | xor x x' hx hx' => rw [gfmul_xor_left, gfmul_xor_right, hx, hx']
  | single j hj =>
    induction y using block_induction with
    | zero => rw [gfmul_zero_left, gfmul_zero_right]
    | xor y y' hy hy' => rw [gfmul_xor_left, gfmul_xor_right, hy, hy']
    | single k hk => exact gfmul_singleBit_comm hj hk

theorem gfmul_one_left (y : Block) : gfmul (singleBit 0) y = y :=
  gfmul_singleBit (by decide) y

theorem gfmul_one_right (x : Block) : gfmul x (singleBit 0) = x := by
  rw [gfmul_comm, gfmul_one_left]

/-- Settles O28: on the single bits the sequence v is the iterated shift. -/
theorem gfmulLaws : Obligations.GfmulLaws := by
  intro x y z
  refine ⟨gfmul_zero_left x, gfmul_zero_right x, gfmul_one_left x, gfmul_one_right x, gfmul_xor_left x y z,
    gfmul_xor_right x y z, fun k => gfShift^[k] y, rfl, fun k _ => ?_, fun k hk => ?_⟩
  · exact (Function.iterate_succ_apply' gfShift k y).trans (gfShift_eq _)
  · rw [natCast_shiftRight_eq_singleBit, gfmul_singleBit hk]

/-- Settles O29: both sides are bilinear, so the products of single bits decide. -/
theorem gfmulCommutes : Obligations.GfmulCommutes := gfmul_comm

end Sys2Proof.Machine
end

section
/-! The field and GHASH commands (R154 to R158): the next state of each. -/

namespace Sys2Proof.Machine

theorem exec_ghUpd {s : State} {n : BitVec 5} (hlow : 1 ≤ n.toNat) (hhigh : n.toNat ≤ 16) :
    exec (.ghUpd n) s = .next { s with acc := ghash s.acc s.h (maskN n.toNat s.din0) }.complete := by
  have hlegal : ¬ (Instr.ghUpd n).legal = false := by simp [Instr.legal, hlow, hhigh]
  exact if_neg hlegal

/-- Settles O31: the block mixed in is the mask of DIN0, whose bytes are those of DIN0 and then zeroes. -/
theorem ghUpdCompletes : Obligations.GhUpdCompletes := fun s n hlow hhigh =>
  ⟨maskN n.toNat s.din0, blockByte_maskN n.toNat s.din0, exec_ghUpd hlow hhigh⟩

/-- Settles O30: no command has a guard, so each equation is its meaning written out. -/
theorem fieldCommandsComplete : Obligations.FieldCommandsComplete := fun _ => ⟨rfl, rfl, rfl, rfl⟩

end Sys2Proof.Machine
end

section
/-! Byte strings as 16-byte blocks (R13, R67, R91): a block and its bytes, and a string as its whole blocks followed by
a shorter rest. -/

namespace Sys2Proof.Machine

theorem blockByte_be128 {bs : List Byte} (hb : bs.length = 16) {i : Nat} (hi : i < bs.length) :
    blockByte (be128 bs) i = bs[i] :=
  extractLsb'_beValue (n := 128) bs (by rw [hb]) i hi

theorem bytes128_be128 {bs : List Byte} (hb : bs.length = 16) : bytes128 (be128 bs) = bs := by
  apply List.ext_getElem (by rw [bytes128_length, hb])
  intro i _ hi
  rw [bytes128_getElem, blockByte_be128 hb hi]

@[simp] theorem be128_bytes128 (v : Block) : be128 (bytes128 v) = v := by
  apply block_ext
  intro i hi
  rw [blockByte_be128 (bytes128_length v) (by rwa [bytes128_length]), bytes128_getElem]

/-- A slice is the first bytes of the block that stands for it (R13, R152). -/
theorem take_bytes128_blockOf {slice : List Byte} (hs : slice.length ≤ 16) :
    (bytes128 (blockOf slice)).take slice.length = slice := by
  rw [blockOf, bytes128_be128 (by simp [zpad16, hs]), zpad16, List.take_left]

theorem blockOf_of_length {slice : List Byte} (hs : slice.length = 16) : blockOf slice = be128 slice := by
  simp [blockOf, zpad16, hs]

/-- Any bound that is at least the length gives all the slices. -/
theorem slices16_eq {m n : Nat} {bs : List Byte} (hm : bs.length ≤ m) (hn : bs.length ≤ n) :
    slices16 m bs = slices16 n bs := by
  induction m generalizing n bs with
  | zero =>
    obtain rfl := List.length_eq_zero_iff.1 (Nat.le_zero.1 hm)
    cases n <;> rfl
  | succ m ih =>
    match n, bs with
    | 0, [] => rfl
    | n + 1, [] => rfl
    | n + 1, b :: bs =>
      have hrest : ((b :: bs).drop 16).length ≤ bs.length := by simp
      rw [List.length_cons] at hm hn
      exact congrArg (List.cons _) (ih (by omega) (by omega))

theorem blocksOf_of_ne_nil {bs : List Byte} (hb : bs ≠ []) : blocksOf bs = bs.take 16 :: blocksOf (bs.drop 16) := by
  obtain ⟨b, bs, rfl⟩ := List.exists_cons_of_ne_nil hb
  exact congrArg (List.cons _) (slices16_eq (by simp) le_rfl)

/-- The only slice of a short string is too short to be a whole block. -/
theorem fullBlocks_of_length_lt {bs : List Byte} (hb : bs.length < 16) : fullBlocks bs = [] := by
  cases bs with
  | nil => rfl
  | cons b bs =>
    have hall : (b :: bs).take 16 = b :: bs := List.take_of_length_le hb.le
    have hnone : (b :: bs).drop 16 = [] := List.drop_of_length_le hb.le
    have hshort : bs.length ≠ 15 := fun h => absurd hb (by simp [h])
    rw [fullBlocks, blocksOf_of_ne_nil (List.cons_ne_nil b bs), hall, hnone]
    simp [blocksOf, slices16, hshort]

theorem fullBlocks_append {slice : List Byte} (hs : slice.length = 16) (bs : List Byte) :
    fullBlocks (slice ++ bs) = be128 slice :: fullBlocks bs := by
  have hne : slice ++ bs ≠ [] := List.append_ne_nil_of_left_ne_nil (List.ne_nil_of_length_eq_add_one hs) bs
  rw [fullBlocks, blocksOf_of_ne_nil hne, List.take_left' hs, List.drop_left' hs]
  simp [fullBlocks, hs, blockOf_of_length hs]

@[simp] theorem bytesOfBlocks_cons (v : Block) (vs : List Block) :
    bytesOfBlocks (v :: vs) = bytes128 v ++ bytesOfBlocks vs :=
  List.flatMap_cons

@[simp] theorem bytesOfBlocks_length (vs : List Block) : (bytesOfBlocks vs).length = 16 * vs.length := by
  simp [bytesOfBlocks, List.length_flatMap, mul_comm]

theorem bytesOfBlocks_concat (vs : List Block) (v : Block) :
    bytesOfBlocks (vs ++ [v]) = bytesOfBlocks vs ++ bytes128 v := by
  simp [bytesOfBlocks]

theorem fullBlocks_bytesOfBlocks_append (vs : List Block) {rest : List Byte} (hr : rest.length < 16) :
    fullBlocks (bytesOfBlocks vs ++ rest) = vs := by
  induction vs with
  | nil => exact fullBlocks_of_length_lt hr
  | cons v vs ih => rw [bytesOfBlocks_cons, List.append_assoc, fullBlocks_append (bytes128_length v), ih, be128_bytes128]

theorem fullBlocks_bytesOfBlocks (vs : List Block) : fullBlocks (bytesOfBlocks vs) = vs := by
  simpa using fullBlocks_bytesOfBlocks_append vs (rest := []) (by decide)

theorem exists_eq_bytesOfBlocks_append (p : List Byte) :
    ∃ (vs : List Block) (rest : List Byte), rest.length < 16 ∧ p = bytesOfBlocks vs ++ rest := by
  induction hn : p.length using Nat.strong_induction_on generalizing p with
  | _ n ih =>
    by_cases hp : p.length < 16
    · exact ⟨[], p, hp, rfl⟩
    · obtain ⟨vs, rest, hrest, hdrop⟩ := ih (p.drop 16).length (by rw [List.length_drop]; omega) _ rfl
      refine ⟨be128 (p.take 16) :: vs, rest, hrest, ?_⟩
      rw [bytesOfBlocks_cons, bytes128_be128 (by rw [List.length_take]; omega), List.append_assoc, ← hdrop,
        List.take_append_drop]

theorem lastBytes_bytesOfBlocks_append (vs : List Block) {rest : List Byte} (hr : rest.length < 16) :
    lastBytes (bytesOfBlocks vs ++ rest) = rest := by
  have hdiv : (bytesOfBlocks vs ++ rest).length / 16 = vs.length := by
    rw [List.length_append, bytesOfBlocks_length]
    omega
  rw [lastBytes, hdiv, List.drop_left' (bytesOfBlocks_length vs)]

/-- A message is its whole blocks and then its last bytes (R178). -/
theorem bytesOfBlocks_fullBlocks_append (p : List Byte) : bytesOfBlocks (fullBlocks p) ++ lastBytes p = p := by
  obtain ⟨vs, rest, hrest, rfl⟩ := exists_eq_bytesOfBlocks_append p
  rw [fullBlocks_bytesOfBlocks_append vs hrest, lastBytes_bytesOfBlocks_append vs hrest]

theorem lastBytes_length (p : List Byte) : (lastBytes p).length = p.length % 16 := by
  rw [lastBytes, List.length_drop]
  omega

theorem fullBlocks_length (p : List Byte) : (fullBlocks p).length = p.length / 16 := by
  have hlen := congrArg List.length (bytesOfBlocks_fullBlocks_append p)
  rw [List.length_append, bytesOfBlocks_length, lastBytes_length] at hlen
  omega

theorem sliceCount_toNat {slice : List Byte} (hs : slice.length ≤ 16) : (sliceCount slice).toNat = slice.length :=
  outCount_toNat hs

end Sys2Proof.Machine
end

section
/-! PKCS#7 padding (R165, R166): the padded message, its final block, and what the padding check says of it. -/

namespace Sys2Proof.Machine

/-- Settles O37: the pad is the second part of the concatenation that defines `pkcs7`. -/
theorem pkcsPaddingShape : Obligations.PkcsPaddingShape := by
  intro p
  have hlen : (pkcs7 p).length = p.length + (16 - p.length % 16) := by simp [pkcs7]
  refine ⟨by omega, List.take_left, 16 - p.length % 16, by omega, by omega, hlen, List.drop_left⟩

theorem padFinal_length {bs : List Byte} (hb : bs.length ≤ 15) : (padFinal bs).length = 16 := by
  rw [padFinal, List.length_append, List.length_replicate]
  omega

section Final

variable {bs : List Byte} {j : Nat}

theorem bytes128_padFinal (hb : bs.length ≤ 15) : bytes128 (be128 (padFinal bs)) = padFinal bs :=
  bytes128_be128 (padFinal_length hb)

theorem blockByte_padFinal_of_lt (hb : bs.length ≤ 15) (hj : j < bs.length) :
    blockByte (be128 (padFinal bs)) j = bs[j] :=
  (blockByte_be128 (padFinal_length hb) (by rw [padFinal_length hb]; omega)).trans (List.getElem_append_left hj)

theorem blockByte_padFinal_of_ge (hb : bs.length ≤ 15) (hj : bs.length ≤ j) (hj16 : j < 16) :
    blockByte (be128 (padFinal bs)) j = BitVec.ofNat 8 (16 - bs.length) := by
  rw [blockByte_be128 (padFinal_length hb) (by rwa [padFinal_length hb])]
  exact (List.getElem_append_right hj).trans (List.getElem_replicate _)

/-- The padding condition of R166, as R235 writes it. -/
theorem padValid_iff (q : Block) :
    padValid q = true ↔ 1 ≤ padLength q ∧ padLength q ≤ 16
      ∧ ∀ j, 16 - padLength q ≤ j → j < 16 → blockByte q j = blockByte q 15 := by
  have hall : ((List.range 16).all fun j => decide (j < 16 - padLength q) || blockByte q j == blockByte q 15) = true ↔
      ∀ j, 16 - padLength q ≤ j → j < 16 → blockByte q j = blockByte q 15 := by
    simp only [List.all_eq_true, List.mem_range, Bool.or_eq_true, decide_eq_true_iff, beq_iff_eq, or_iff_not_imp_left,
      not_lt]
    exact forall_congr' fun j => forall_comm
  rw [padValid, Bool.and_eq_true, Bool.and_eq_true, decide_eq_true_iff, decide_eq_true_iff, hall, and_assoc]

theorem padLength_padFinal (hb : bs.length ≤ 15) : padLength (be128 (padFinal bs)) = 16 - bs.length := by
  rw [padLength, blockByte_padFinal_of_ge hb hb (by decide), BitVec.toNat_ofNat, Nat.mod_eq_of_lt (by omega)]

theorem padValid_padFinal (hb : bs.length ≤ 15) : padValid (be128 (padFinal bs)) = true := by
  rw [padValid_iff, padLength_padFinal hb]
  refine ⟨by omega, by omega, fun j hj hj16 => ?_⟩
  rw [blockByte_padFinal_of_ge hb (by omega) hj16, blockByte_padFinal_of_ge hb hb (by decide)]

/-- Without its pad the final block is the last bytes of the message (R168). -/
theorem take_bytes128_padFinal (hb : bs.length ≤ 15) :
    (bytes128 (be128 (padFinal bs))).take (16 - padLength (be128 (padFinal bs))) = bs := by
  have hlen : 16 - (16 - bs.length) = bs.length := by omega
  rw [padLength_padFinal hb, bytes128_padFinal hb, hlen, padFinal, List.take_left]

end Final

theorem lastBytes_length_le (p : List Byte) : (lastBytes p).length ≤ 15 := by
  rw [lastBytes_length]
  omega

/-- The blocks of the padded message are the message's whole blocks and its padded last bytes (R165, R178). -/
theorem fullBlocks_pkcs7 (p : List Byte) : fullBlocks (pkcs7 p) = fullBlocks p ++ [be128 (padFinal (lastBytes p))] := by
  have hpkcs : pkcs7 p = bytesOfBlocks (fullBlocks p ++ [be128 (padFinal (lastBytes p))]) := by
    rw [bytesOfBlocks_concat, bytes128_padFinal (lastBytes_length_le p), padFinal, ← List.append_assoc,
      bytesOfBlocks_fullBlocks_append, lastBytes_length, pkcs7]
  rw [hpkcs, fullBlocks_bytesOfBlocks]

end Sys2Proof.Machine
end

section
/-! The CBC commands (R172 to R176): the next state of each, and the sequences of R178. -/

namespace Sys2Proof.Machine

/-- Settles O33: none of the three commands has a guard, so each equation is its meaning written out. -/
theorem cbcBlockCommandsComplete : Obligations.CbcBlockCommandsComplete := fun _ => ⟨rfl, rfl, rfl⟩

section Commands

variable {s : State} {n : BitVec 5}

/-- The padded block that CBC_ENCF encrypts (R174). -/
def encfBlock (n : Nat) (v : Block) : Block := be128 (padFinal ((bytes128 v).take n))

theorem exec_cbcEncf (hn : n.toNat ≤ 15) :
    exec (.cbcEncf n) s =
      .next ({ s with prev := encrypt s.rom.ct s.key (encfBlock n.toNat s.din0 ^^^ s.prev) }.writeDout
        (encrypt s.rom.ct s.key (encfBlock n.toNat s.din0 ^^^ s.prev)) 16).complete := by
  have hlegal : ¬ (Instr.cbcEncf n).legal = false := by simp [Instr.legal, hn]
  exact if_neg hlegal

theorem blockByte_encfBlock {n : Nat} (hn : n ≤ 15) (v : Block) {j : Nat} (hj : j < 16) :
    blockByte (encfBlock n v) j = if j < n then blockByte v j else BitVec.ofNat 8 (16 - n) := by
  have hlen : ((bytes128 v).take n).length = n := by
    rw [List.length_take, bytes128_length]
    omega
  split
  · next hjn =>
    rw [encfBlock, blockByte_padFinal_of_lt (by omega) (by omega), List.getElem_take, bytes128_getElem]
  · rw [encfBlock, blockByte_padFinal_of_ge (by omega) (by omega) hj, hlen]

/-- The final block before its padding is checked (R176). -/
def decfBlock (s : State) : Block := decrypt s.rom.ct s.key s.din0 ^^^ s.prev

theorem exec_cbcDecf_of_valid (hq : padValid (decfBlock s) = true) :
    exec .cbcDecf s =
      .next ({ s with prev := s.din0 }.writeDout (maskN (16 - padLength (decfBlock s)) (decfBlock s))
        (outCount (16 - padLength (decfBlock s)))).complete :=
  congrArg Host.Outcome.next (if_pos hq)

theorem exec_cbcDecf_of_not_valid (hq : ¬ padValid (decfBlock s) = true) :
    exec .cbcDecf s = .next ((s.writeDout 0 0).raiseError .badPadding) :=
  congrArg Host.Outcome.next (if_neg hq)

end Commands

/-- Settles O34: the block is `encfBlock`. -/
theorem cbcEncfCompletes : Obligations.CbcEncfCompletes := fun s _ hn =>
  ⟨encfBlock _ s.din0, _, fun _ => blockByte_encfBlock hn s.din0, rfl, exec_cbcEncf hn⟩

/-- Issuing CBC_ENC for each block runs `cbcChain`; the state left behind holds what one more block is chained to. -/
theorem issueCollect_cbcEnc (q : Block) (qs : List Block) (s : State) :
    let r := issueCollect (qs.map fun b => (b, Instr.cbcEnc)) s
    r.2 ++ [encrypt r.1.rom.ct r.1.key (q ^^^ r.1.prev)] = cbcChain s.rom.ct s.key s.prev (qs ++ [q]) := by
  induction qs generalizing s with
  | nil => rfl
  | cons b qs ih => exact congrArg (List.cons _) (ih (issue b .cbcEnc s))

/-- Issuing CBC_DEC for each block runs `cbcUnchain`; the state left behind holds what one more block is chained to. -/
theorem issueCollect_cbcDec (c : Block) (cs : List Block) (s : State) :
    let r := issueCollect (cs.map fun b => (b, Instr.cbcDec)) s
    r.2 ++ [decrypt r.1.rom.ct r.1.key c ^^^ r.1.prev] = cbcUnchain s.rom.ct s.key s.prev (cs ++ [c]) := by
  induction cs generalizing s with
  | nil => rfl
  | cons b cs ih => exact congrArg (List.cons _) (ih (issue b .cbcDec s))

/-- Settles O38: CBC_ENCF on the last bytes encrypts the padded block that `pkcs7` puts last. -/
theorem cbcCommandsEncryptTheMessage : Obligations.CbcCommandsEncryptTheMessage := by
  intro s iv p r s2
  have hlen := lastBytes_length_le p
  have hcount : (sliceCount (lastBytes p)).toNat = (lastBytes p).length := sliceCount_toNat (by omega)
  have hblock : encfBlock (sliceCount (lastBytes p)).toNat (blockOf (lastBytes p)) = be128 (padFinal (lastBytes p)) := by
    rw [encfBlock, hcount, take_bytes128_blockOf (by omega)]
  have hs2 : s2 = _ := issue_of_exec (exec_cbcEncf (by omega))
  constructor
  · rw [hs2, State.complete_dout, State.writeDout_dout, hblock, cbcCipherBlocks, fullBlocks_pkcs7]
    exact issueCollect_cbcEnc _ _ (issue iv .cbcSetiv s)
  · rw [hs2, State.complete_errcode]

/-- Settles O39: the block that CBC_DECF checks is the last one `cbcUnchain` recovers. -/
theorem cbcCommandsDecryptTheMessage : Obligations.CbcCommandsDecryptTheMessage := by
  intro s iv c cs r s2 q final
  have hq : r.2 ++ [decfBlock { r.1 with din0 := c }] = q := issueCollect_cbcDec c cs (issue iv .cbcSetiv s)
  have hfinal : final = decfBlock { r.1 with din0 := c } := by
    show q.getLastD 0 = _
    rw [← hq, List.getLastD_concat]
  refine ⟨by rw [← hq, List.dropLast_concat], ?_⟩
  rw [hfinal]
  split
  · next hvalid =>
    have hs2 : s2 = _ := issue_of_exec (exec_cbcDecf_of_valid hvalid)
    refine ⟨by rw [hs2, State.complete_errcode], ?_⟩
    rw [hs2, State.complete_dout, State.complete_outlen, State.writeDout_dout, State.writeDout_outlen,
      outCount_toNat (Nat.sub_le _ _)]
    refine take_bytes128_congr fun j hj => ?_
    rw [blockByte_maskN _ _ _ (by omega), if_pos hj]
  · next hinvalid =>
    have hs2 : s2 = _ := issue_of_exec (exec_cbcDecf_of_not_valid hinvalid)
    exact ⟨by rw [hs2]; rfl, by rw [hs2]; rfl, by rw [hs2]; rfl⟩

end Sys2Proof.Machine
end

section
/-! CBC files (R167, R168, R180): decryption undoes encryption block by block, and on the file as a whole. -/

namespace Sys2Proof.Machine

section Chain

variable (ct : CipherTables) (k : Schedule)

theorem cbcChain_length (qs : List Block) (prev : Block) : (cbcChain ct k prev qs).length = qs.length := by
  induction qs generalizing prev with
  | nil => rfl
  | cons q qs ih => rw [cbcChain, List.length_cons, ih, List.length_cons]

/-- Both directions are chained to the same ciphertext block, so the XOR with it cancels. -/
theorem cbcUnchain_cbcChain (qs : List Block) (prev : Block) : cbcUnchain ct k prev (cbcChain ct k prev qs) = qs := by
  induction qs generalizing prev with
  | nil => rfl
  | cons q qs ih =>
    rw [cbcChain, cbcUnchain, ih, (decryptUndoesEncrypt ct k _).1, BitVec.xor_assoc, BitVec.xor_self, BitVec.xor_zero]

theorem cbcCipherBlocks_length (iv : Block) (p : List Byte) : (cbcCipherBlocks ct k iv p).length = p.length / 16 + 1 := by
  rw [cbcCipherBlocks, cbcChain_length, fullBlocks_pkcs7, List.length_append, fullBlocks_length, List.length_singleton]

theorem cbcUnchain_cbcCipherBlocks (iv : Block) (p : List Byte) :
    cbcUnchain ct k iv (cbcCipherBlocks ct k iv p) = fullBlocks p ++ [be128 (padFinal (lastBytes p))] := by
  rw [cbcCipherBlocks, cbcUnchain_cbcChain, fullBlocks_pkcs7]

/-- What CbcDecrypt answers on an IV, at least one ciphertext block and a stored digest, by the last block recovered
(R168). -/
theorem cbcDecrypt_file {iv q : Block} {cs qs : List Block} {d : List Byte} (hd : d.length = 32)
    (hcs : 0 < cs.length) (hq : cbcUnchain ct k iv cs = qs ++ [q]) :
    cbcDecrypt ct k (bytes128 iv ++ bytesOfBlocks cs ++ d) =
      if padValid q then
        .ok (bytesOfBlocks qs ++ (bytes128 q).take (16 - padLength q)) (cbcDigest (bytesOfBlocks cs) == d)
      else .formatError (bytesOfBlocks qs) := by
  have hlen : (bytes128 iv ++ bytesOfBlocks cs ++ d).length = 48 + 16 * cs.length := by
    rw [List.length_append, List.length_append, bytes128_length, bytesOfBlocks_length, hd]
    omega
  have hiv : (bytes128 iv ++ bytesOfBlocks cs ++ d).take 16 = bytes128 iv := by
    rw [List.append_assoc, List.take_left' (bytes128_length iv)]
  have hc : ((bytes128 iv ++ bytesOfBlocks cs ++ d).drop 16).take (48 + 16 * cs.length - 48) = bytesOfBlocks cs := by
    rw [List.append_assoc, List.drop_left' (bytes128_length iv), Nat.add_sub_cancel_left,
      List.take_left' (bytesOfBlocks_length cs)]
  have hdigest : (bytes128 iv ++ bytesOfBlocks cs ++ d).drop (48 + 16 * cs.length - 32) = d := by
    refine List.drop_left' ?_
    rw [List.length_append, bytes128_length, bytesOfBlocks_length]
    omega
  rw [cbcDecrypt, hlen, if_neg (by omega), if_neg (by omega), hiv, hc, hdigest]
  simp only [be128_bytes128, fullBlocks_bytesOfBlocks, hq, List.getLastD_concat, List.dropLast_concat]

end Chain

@[simp] theorem cbcDigest_length (c : List Byte) : (cbcDigest c).length = 32 := Vector.length_toList

/-- Settles O40: the recovered blocks are the message's own, the last one padded, and the digest is of the same
ciphertext. -/
theorem cbcRoundTrips : Obligations.CbcRoundTrips := by
  intro ct k iv p
  have hlast := lastBytes_length_le p
  have hlen := cbcCipherBlocks_length ct k iv p
  constructor
  · rw [cbcEncrypt, cbcDecrypt_file ct k (cbcDigest_length _) (by omega) (cbcUnchain_cbcCipherBlocks ct k iv p),
      if_pos (padValid_padFinal hlast), take_bytes128_padFinal hlast, bytesOfBlocks_fullBlocks_append, beq_self_eq_true]
  · rw [cbcEncrypt, List.length_append, List.length_append, bytes128_length, bytesOfBlocks_length, cbcDigest_length, hlen]

end Sys2Proof.Machine
end

section
/-! The functions GCM is built from (R190, R194, R198): the counter increment and the lengths block as numbers, and the
comparison of tags as equality. -/

namespace Sys2Proof.Machine

theorem blockByte_xor (v w : Block) (i : Nat) : blockByte (v ^^^ w) i = blockByte v i ^^^ blockByte w i :=
  BitVec.extractLsb'_xor

/-- The concatenation of R190 as a number: the upper 96 bits stay above the incremented low 32. -/
theorem toNat_incLow32 (v : Block) :
    (incLow32 v).toNat = v.toNat / 2 ^ 32 * 2 ^ 32 + (v.toNat % 2 ^ 32 + 1) % 2 ^ 32 := by
  have hlow : (v.extractLsb' 0 32 + 1#32).toNat = (v.toNat % 2 ^ 32 + 1) % 2 ^ 32 := by simp
  have hhigh : (v.extractLsb' 32 96).toNat = v.toNat / 2 ^ 32 := by
    rw [BitVec.extractLsb'_toNat, Nat.shiftRight_eq_div_pow]
    omega
  rw [incLow32, BitVec.toNat_append, ← Nat.shiftLeft_add_eq_or_of_lt (BitVec.isLt _), Nat.shiftLeft_eq, hlow, hhigh]

theorem lengthsBlock_eq (len : Word) : lengthsBlock len = BitVec.ofNat 128 (8 * len.toNat % 2 ^ 64) := by
  apply BitVec.eq_of_toNat_eq
  simp [lengthsBlock]

/-- The running conjunction of the comparison, with no early exit (R198). -/
theorem foldl_and_eq_true_iff {α : Type} (p : α → Bool) (xs : List α) (b : Bool) :
    xs.foldl (fun eq x => eq && p x) b = true ↔ b = true ∧ ∀ x ∈ xs, p x = true := by
  induction xs generalizing b with
  | nil => simp
  | cons x xs ih => rw [List.foldl_cons, ih, Bool.and_eq_true, List.forall_mem_cons, and_assoc]

/-- Sixteen equal bytes are equal blocks (R198). -/
theorem ctEqual_eq_decide (x y : Block) : ctEqual x y = decide (x = y) := by
  rw [Bool.eq_iff_iff, decide_eq_true_iff, ctEqual, foldl_and_eq_true_iff]
  simp only [List.mem_range, beq_iff_eq, true_and]
  exact ⟨block_ext x y, fun h _ _ => congrArg (blockByte · _) h⟩

end Sys2Proof.Machine
end

section
/-! The GCM commands and INC32 (R200 to R204, R207): the next state of each in its phase. -/

namespace Sys2Proof.Machine

/-- The two directions of the GCM data commands (R201, R202). -/
inductive GcmDirection where
  | enc
  | dec

/-- The data command of a direction. -/
def GcmDirection.command : GcmDirection → BitVec 5 → Instr
  | .enc => .gcmEnc
  | .dec => .gcmDec

/-- Which of a command's input and output is the ciphertext, the side that GHASH absorbs (R201, R202). -/
def GcmDirection.ciphertext {α : Type} : GcmDirection → α → α → α
  | .enc, _, output => output
  | .dec, input, _ => input

theorem GcmDirection.apply_ciphertext {α β : Type} (dir : GcmDirection) (f : α → β) (input output : α) :
    f (dir.ciphertext input output) = dir.ciphertext (f input) (f output) := by
  cases dir <;> rfl

theorem GcmDirection.ciphertext_cons {α : Type} (dir : GcmDirection) (x y : α) (xs ys : List α) :
    dir.ciphertext (x :: xs) (y :: ys) = dir.ciphertext x y :: dir.ciphertext xs ys := by
  cases dir <;> rfl

section Commands

variable {s : State} {n : BitVec 5}

/-- The first n bytes of DIN0 XORed with the keystream, zero-padded (R193). -/
def gcmOutput (n : Nat) (s : State) : Block := maskN n (s.din0 ^^^ encrypt s.rom.ct s.key s.ctr)

theorem blockByte_gcmOutput (n : Nat) (s : State) (j : Nat) (hj : j < 16) :
    blockByte (gcmOutput n s) j =
      if j < n then blockByte s.din0 j ^^^ blockByte (encrypt s.rom.ct s.key s.ctr) j else 0 := by
  rw [gcmOutput, blockByte_maskN n _ j hj, blockByte_xor]

/-- GCM_DEC masks its input before the XOR and its output after it; the first mask changes nothing (R202). -/
theorem maskN_maskN_xor (n : Nat) (v w : Block) : maskN n (maskN n v ^^^ w) = maskN n (v ^^^ w) := by
  rw [maskN_xor, maskN_idem, ← maskN_xor]

theorem exec_gcmData (dir : GcmDirection) (hlow : 1 ≤ n.toNat) (hhigh : n.toNat ≤ 16) (hg : s.gphase = .opened) :
    exec (dir.command n) s =
      .next ((s.gcmAdvance (dir.ciphertext (maskN n.toNat s.din0) (gcmOutput n.toNat s)) n).writeDout
        (gcmOutput n.toNat s) n).complete := by
  have hlegal : (decide (1 ≤ n.toNat) && decide (n.toNat ≤ 16)) ≠ false := by simp [hlow, hhigh]
  cases dir with
  | enc => exact (if_neg hlegal).trans (if_neg (not_not.2 hg))
  | dec =>
    rw [gcmOutput, ← maskN_maskN_xor]
    exact (if_neg hlegal).trans (if_neg (not_not.2 hg))

/-- The state after a data block in OPEN, field by field (R201, R202). -/
theorem complete_writeDout_gcmAdvance (c v : Block) (hg : s.gphase = .opened) :
    ((s.gcmAdvance c n).writeDout v n).complete =
      { s with
        acc := gfmul (s.acc ^^^ c) s.h, ctr := incLow32 s.ctr, len := BitVec.ofNat 64 (s.len.toNat + n.toNat)
        dout := v, outlen := n, gphase := if n.toNat < 16 then .closed else .opened, errcode := .ok } := by
  have hlen : BitVec.ofNat 64 (s.len.toNat + n.toNat) = s.len + n.setWidth 64 := by
    apply BitVec.eq_of_toNat_eq
    simp
  rw [hlen, ← hg]
  rfl

theorem exec_gcmTag (hg : s.gphase = .opened ∨ s.gphase = .closed) :
    exec .gcmTag s =
      .next ({ s with
        acc := ghash s.acc s.h (lengthsBlock s.len)
        tag := encrypt s.rom.ct s.key s.j0 ^^^ ghash s.acc s.h (lengthsBlock s.len)
        gphase := .done }.writeDout
          (encrypt s.rom.ct s.key s.j0 ^^^ ghash s.acc s.h (lengthsBlock s.len)) 16).complete :=
  if_neg (not_and_or.2 (hg.imp not_not.2 not_not.2))

theorem exec_gcmVerify (hg : s.gphase = .done) :
    exec .gcmVerify s = .next { s with authOk := decide (s.din0 = s.tag), authValid := true }.complete := by
  rw [← ctEqual_eq_decide]
  exact if_neg (not_not.2 hg)

end Commands

/-- Settles O41: the command has no guard, and the first GHASH of the IV starts from 0. -/
theorem gcmInitCompletes : Obligations.GcmInitCompletes := by
  intro s h j0
  have hj0 : j0Of h s.din0 = j0 := by
    have hiv : (0 : Block) ^^^ s.din0 = s.din0 := BitVec.zero_xor
    rw [j0Of, ghash, ghash, hiv]
    rfl
  rw [← hj0]
  rfl

/-- Settles O42: the ciphertext is the command's output. -/
theorem gcmEncCompletes : Obligations.GcmEncCompletes := fun s n hlow hhigh hg =>
  ⟨gcmOutput n.toNat s, blockByte_gcmOutput n.toNat s,
    (exec_gcmData .enc hlow hhigh hg).trans (congrArg _ (complete_writeDout_gcmAdvance _ _ hg))⟩

/-- Settles O43: the ciphertext is the command's input. -/
theorem gcmDecCompletes : Obligations.GcmDecCompletes := fun s n hlow hhigh hg =>
  ⟨maskN n.toNat s.din0, gcmOutput n.toNat s, blockByte_maskN n.toNat s.din0, blockByte_gcmOutput n.toNat s,
    (exec_gcmData .dec hlow hhigh hg).trans (congrArg _ (complete_writeDout_gcmAdvance _ _ hg))⟩

/-- Settles O44: the lengths block is the number 8·LEN modulo 2^64. -/
theorem gcmTagCompletes : Obligations.GcmTagCompletes := by
  intro s hg a t
  have ha : ghash s.acc s.h (lengthsBlock s.len) = a := by rw [lengthsBlock_eq]; rfl
  rw [exec_gcmTag hg, ha]
  rfl

/-- Settles O45: the comparison of all 16 bytes decides equality. -/
theorem gcmVerifyCompletes : Obligations.GcmVerifyCompletes := fun _ => exec_gcmVerify

/-- Settles O47: quotient and remainder by 2^32 of the incremented value. -/
theorem incCompletes : Obligations.IncCompletes := by
  intro s
  have hinc := toNat_incLow32 s.din0
  exact ⟨incLow32 s.din0, rfl, by omega, by omega, rfl⟩

end Sys2Proof.Machine
end

section
/-! The slices of a message (R91, R196): whole ones and perhaps a shorter last one, a shape that the keystream keeps and
that fixes the slices of the concatenation. -/

namespace Sys2Proof.Machine

/-- The shape of a message's slices: 16 bytes each, but for a last one of 1 to 15 (R196). -/
inductive Sliced : List (List Byte) → Prop where
  | nil : Sliced []
  | last {slice : List Byte} (hne : slice ≠ []) (hlt : slice.length < 16) : Sliced [slice]
  | cons {slice : List Byte} {slices : List (List Byte)} (hlen : slice.length = 16) (hs : Sliced slices) :
      Sliced (slice :: slices)

theorem blocksOf_append {slice : List Byte} (hs : slice.length = 16) (bs : List Byte) :
    blocksOf (slice ++ bs) = slice :: blocksOf bs := by
  have hne : slice ++ bs ≠ [] := List.append_ne_nil_of_left_ne_nil (List.ne_nil_of_length_eq_add_one hs) bs
  rw [blocksOf_of_ne_nil hne, List.take_left' hs, List.drop_left' hs]

theorem blocksOf_of_length_lt {bs : List Byte} (hne : bs ≠ []) (hlt : bs.length < 16) : blocksOf bs = [bs] := by
  rw [blocksOf_of_ne_nil hne, List.take_of_length_le hlt.le, List.drop_of_length_le hlt.le]
  rfl

/-- Slices of this shape are the slices of their concatenation. -/
theorem Sliced.blocksOf_flatten {slices : List (List Byte)} (hs : Sliced slices) :
    blocksOf slices.flatten = slices := by
  induction hs with
  | nil => rfl
  | last hne hlt => rw [List.flatten_singleton, blocksOf_of_length_lt hne hlt]
  | cons hlen _ ih => rw [List.flatten_cons, blocksOf_append hlen, ih]

theorem Sliced.length_le {slices : List (List Byte)} (hs : Sliced slices) : ∀ slice ∈ slices, slice.length ≤ 16 := by
  induction hs with
  | nil => exact List.forall_mem_nil _
  | last _ hlt => exact List.forall_mem_singleton.2 hlt.le
  | cons hlen _ ih => exact List.forall_mem_cons.2 ⟨hlen.le, ih⟩

/-- Every message is the concatenation of such slices. -/
theorem exists_sliced (p : List Byte) : ∃ slices, Sliced slices ∧ slices.flatten = p := by
  obtain ⟨vs, rest, hrest, rfl⟩ := exists_eq_bytesOfBlocks_append p
  induction vs with
  | nil =>
    by_cases hne : rest = []
    · exact ⟨[], .nil, hne.symm⟩
    · exact ⟨[rest], .last hne hrest, List.flatten_singleton⟩
  | cons v vs ih =>
    obtain ⟨slices, hs, hflat⟩ := ih
    exact ⟨bytes128 v :: slices, .cons (bytes128_length v) hs, by
      rw [List.flatten_cons, hflat, bytesOfBlocks_cons, List.append_assoc]⟩

theorem sliced_blocksOf (p : List Byte) : Sliced (blocksOf p) := by
  obtain ⟨slices, hs, rfl⟩ := exists_sliced p
  rwa [hs.blocksOf_flatten]

theorem flatten_blocksOf (p : List Byte) : (blocksOf p).flatten = p := by
  obtain ⟨slices, hs, rfl⟩ := exists_sliced p
  rw [hs.blocksOf_flatten]

/-! A slice and its block -/

section Block

variable {slice : List Byte}

theorem blockByte_blockOf (hs : slice.length ≤ 16) {j : Nat} (hj : j < 16) :
    blockByte (blockOf slice) j = slice.getD j 0 := by
  have hlen : (zpad16 slice).length = 16 := by simp [zpad16, hs]
  rw [blockOf, blockByte_be128 hlen (by rwa [hlen])]
  by_cases hjs : j < slice.length
  · simp [zpad16, hjs]
  · simp [zpad16, not_lt.1 hjs]

/-- Zero-padding the first n bytes is masking (R13). -/
theorem blockOf_take_bytes128 {n : Nat} (hn : n ≤ 16) (v : Block) : blockOf ((bytes128 v).take n) = maskN n v := by
  apply block_ext
  intro j hj
  rw [blockByte_blockOf (by rw [List.length_take]; omega) hj, blockByte_maskN n v j hj, List.getD_eq_getElem?_getD]
  split
  · next hjn =>
    have hbyte : (bytes128 v)[j]? = some (blockByte v j) := by
      rw [List.getElem?_eq_getElem (by rwa [bytes128_length]), bytes128_getElem]
    simp [hjn, hbyte]
  · next hjn => simp [hjn]

theorem maskN_blockOf (hs : slice.length ≤ 16) : maskN slice.length (blockOf slice) = blockOf slice := by
  rw [← blockOf_take_bytes128 hs, take_bytes128_blockOf hs]

end Block

/-! The counter mode (R193) -/

section Counter

variable (ct : CipherTables) (k : Schedule) (cb : Block)

/-- A slice XORed with the keystream of one counter block (R193). -/
def ctrSlice (slice : List Byte) : List Byte := (bytes128 (blockOf slice ^^^ encrypt ct k cb)).take slice.length

theorem ctrApply_cons (slice : List Byte) (slices : List (List Byte)) :
    ctrApply ct k cb (slice :: slices) = ctrSlice ct k cb slice :: ctrApply ct k (incLow32 cb) slices := rfl

theorem ctrSlice_length {slice : List Byte} (hs : slice.length ≤ 16) :
    (ctrSlice ct k cb slice).length = slice.length := by
  rw [ctrSlice, List.length_take, bytes128_length, Nat.min_eq_left hs]

theorem blockOf_ctrSlice {slice : List Byte} (hs : slice.length ≤ 16) :
    blockOf (ctrSlice ct k cb slice) = maskN slice.length (blockOf slice ^^^ encrypt ct k cb) :=
  blockOf_take_bytes128 hs _

/-- The XOR with the same keystream cancels. -/
theorem ctrSlice_ctrSlice {slice : List Byte} (hs : slice.length ≤ 16) :
    ctrSlice ct k cb (ctrSlice ct k cb slice) = slice := by
  have hcancel : maskN slice.length (blockOf (ctrSlice ct k cb slice) ^^^ encrypt ct k cb) = blockOf slice := by
    rw [blockOf_ctrSlice ct k cb hs, maskN_maskN_xor, BitVec.xor_assoc, BitVec.xor_self, BitVec.xor_zero,
      maskN_blockOf hs]
  calc ctrSlice ct k cb (ctrSlice ct k cb slice)
      = (bytes128 (maskN slice.length (blockOf (ctrSlice ct k cb slice) ^^^ encrypt ct k cb))).take slice.length := by
        rw [ctrSlice, ctrSlice_length ct k cb hs]
        refine take_bytes128_congr fun j hj => ?_
        rw [blockByte_maskN _ _ _ (by omega), if_pos hj]
    _ = slice := by rw [hcancel, take_bytes128_blockOf hs]

theorem ctrApply_ctrApply {slices : List (List Byte)} (hs : ∀ slice ∈ slices, slice.length ≤ 16) :
    ctrApply ct k cb (ctrApply ct k cb slices) = slices := by
  induction slices generalizing cb with
  | nil => rfl
  | cons slice slices ih =>
    obtain ⟨hle, hs⟩ := List.forall_mem_cons.1 hs
    rw [ctrApply_cons, ctrApply_cons, ctrSlice_ctrSlice ct k cb hle, ih _ hs]

theorem length_flatten_ctrApply {slices : List (List Byte)} (hs : ∀ slice ∈ slices, slice.length ≤ 16) :
    (ctrApply ct k cb slices).flatten.length = slices.flatten.length := by
  induction slices generalizing cb with
  | nil => rfl
  | cons slice slices ih =>
    obtain ⟨hle, hs⟩ := List.forall_mem_cons.1 hs
    rw [ctrApply_cons, List.flatten_cons, List.flatten_cons, List.length_append, List.length_append,
      ctrSlice_length ct k cb hle, ih _ hs]

/-- The keystream keeps the shape: each slice keeps its length. -/
theorem Sliced.ctrApply {slices : List (List Byte)} (hs : Sliced slices) :
    Sliced (Machine.ctrApply ct k cb slices) := by
  induction hs generalizing cb with
  | nil => exact .nil
  | last hne hlt =>
    have hlen := ctrSlice_length ct k cb hlt.le
    refine .last (List.ne_nil_of_length_pos ?_) (hlen.trans_lt hlt)
    exact (List.length_pos_of_ne_nil hne).trans_eq hlen.symm
  | cons hlen _ ih => exact .cons ((ctrSlice_length ct k cb hlen.le).trans hlen) (ih _)

end Counter

end Sys2Proof.Machine
end

section
/-! GCM messages (R196, R197, R210, R211): the command sequences in both directions, and decryption after encryption. -/

namespace Sys2Proof.Machine

/-- One data command in OPEN on a slice: its ciphertext slice enters ACC, its output slice is in DOUT (R201, R202). -/
theorem issue_gcmData (dir : GcmDirection) {s : State} {slice : List Byte} (hne : slice ≠ []) (hle : slice.length ≤ 16)
    (hg : s.gphase = .opened) :
    let output := ctrSlice s.rom.ct s.key s.ctr slice
    issue (blockOf slice) (dir.command (sliceCount slice)) s =
      (({ s with din0 := blockOf slice }.gcmAdvance (blockOf (dir.ciphertext slice output))
        (sliceCount slice)).writeDout (blockOf output) (sliceCount slice)).complete := by
  intro output
  have hcount := sliceCount_toNat hle
  have hlow : 1 ≤ (sliceCount slice).toNat := hcount ▸ List.length_pos_of_ne_nil hne
  have hinput : maskN (sliceCount slice).toNat (blockOf slice) = blockOf slice := by rw [hcount, maskN_blockOf hle]
  have houtput : gcmOutput (sliceCount slice).toNat { s with din0 := blockOf slice } = blockOf output := by
    rw [gcmOutput, hcount, blockOf_ctrSlice _ _ _ hle]
  rw [dir.apply_ciphertext blockOf, ← houtput]
  have hexec := exec_gcmData (s := { s with din0 := blockOf slice }) dir hlow (hcount.trans_le hle) hg
  rw [hinput] at hexec
  exact issue_of_exec hexec

/-- `t` follows `s` by data commands with the ciphertext slices `cs`: what GCM_TAG reads (R203). -/
structure GcmAbsorbed (s : State) (cs : List (List Byte)) (t : State) : Prop where
  rom_eq : t.rom = s.rom
  key_eq : t.key = s.key
  h_eq : t.h = s.h
  j0_eq : t.j0 = s.j0
  acc_eq : t.acc = ghashSlices s.h s.acc cs
  len_eq : t.len = s.len + BitVec.ofNat 64 cs.flatten.length
  gphase : t.gphase = .opened ∨ t.gphase = .closed

theorem GcmAbsorbed.nil {s : State} (hg : s.gphase = .opened ∨ s.gphase = .closed) : GcmAbsorbed s [] s :=
  ⟨rfl, rfl, rfl, rfl, rfl, (BitVec.add_zero _).symm, hg⟩

theorem GcmAbsorbed.cons {s t u : State} {c : List Byte} {cs : List (List Byte)} (hst : GcmAbsorbed s [c] t)
    (htu : GcmAbsorbed t cs u) : GcmAbsorbed s (c :: cs) u where
  rom_eq := htu.rom_eq.trans hst.rom_eq
  key_eq := htu.key_eq.trans hst.key_eq
  h_eq := htu.h_eq.trans hst.h_eq
  j0_eq := htu.j0_eq.trans hst.j0_eq
  acc_eq := by rw [htu.acc_eq, hst.acc_eq, hst.h_eq]; rfl
  len_eq := by
    rw [htu.len_eq, hst.len_eq, List.flatten_singleton, List.flatten_cons, List.length_append, BitVec.ofNat_add,
      BitVec.add_assoc]
  gphase := htu.gphase

theorem GcmAbsorbed.issue_gcmData (dir : GcmDirection) {s : State} {slice : List Byte} (hne : slice ≠ [])
    (hle : slice.length ≤ 16) (hg : s.gphase = .opened) :
    GcmAbsorbed s [dir.ciphertext slice (ctrSlice s.rom.ct s.key s.ctr slice)]
      (issue (blockOf slice) (dir.command (sliceCount slice)) s) := by
  rw [Machine.issue_gcmData dir hne hle hg]
  refine ⟨rfl, rfl, rfl, rfl, rfl, ?_, ?_⟩
  · have hlen : (dir.ciphertext slice (ctrSlice s.rom.ct s.key s.ctr slice)).length = slice.length := by
      cases dir with
      | enc => exact ctrSlice_length _ _ _ hle
      | dec => rfl
    have hcount : (sliceCount slice).setWidth 64 = BitVec.ofNat 64 slice.length := by
      rw [← sliceCount_toNat hle, BitVec.ofNat_toNat]
    rw [List.flatten_singleton, hlen, ← hcount]
    rfl
  · obtain ⟨_, hclosed⟩ | hsame := phaseAfter_cases (count (sliceCount slice)) s.gphase
    · exact .inr hclosed
    · exact .inl (hsame.trans hg)

/-- What the HOST keeps of the DOUT values it read, one per slice (R210). -/
def readSlices (douts : List Block) (slices : List (List Byte)) : List (List Byte) :=
  List.zipWith (fun d slice => (bytes128 d).take slice.length) douts slices

/-- From `s`, a data command per slice answers the counter mode and leaves what GCM_TAG reads, GHASH having absorbed the
side that is the ciphertext. -/
def RunsCounterMode (dir : GcmDirection) (s : State) (slices : List (List Byte)) : Prop :=
  let r := issueCollect (slices.map fun slice => (blockOf slice, dir.command (sliceCount slice))) s
  let output := ctrApply s.rom.ct s.key s.ctr slices
  readSlices r.2 slices = output ∧ GcmAbsorbed s (dir.ciphertext slices output) r.1

theorem RunsCounterMode.nil (dir : GcmDirection) {s : State} (hg : s.gphase = .opened ∨ s.gphase = .closed) :
    RunsCounterMode dir s [] := by
  refine ⟨rfl, ?_⟩
  cases dir <;> exact .nil hg

theorem RunsCounterMode.cons (dir : GcmDirection) {s : State} {slice : List Byte} {slices : List (List Byte)}
    (hne : slice ≠ []) (hle : slice.length ≤ 16) (hg : s.gphase = .opened)
    (ht : RunsCounterMode dir (issue (blockOf slice) (dir.command (sliceCount slice)) s) slices) :
    RunsCounterMode dir s (slice :: slices) := by
  have hst := GcmAbsorbed.issue_gcmData dir hne hle hg
  have hissue := issue_gcmData dir hne hle hg
  have hout : (bytes128 (issue (blockOf slice) (dir.command (sliceCount slice)) s).dout).take slice.length =
      ctrSlice s.rom.ct s.key s.ctr slice := by
    rw [hissue, State.complete_dout, State.writeDout_dout, ← ctrSlice_length s.rom.ct s.key s.ctr hle,
      take_bytes128_blockOf (by rwa [ctrSlice_length _ _ _ hle])]
  have hctr : (issue (blockOf slice) (dir.command (sliceCount slice)) s).ctr = incLow32 s.ctr := by rw [hissue]; rfl
  obtain ⟨hread, habs⟩ := ht
  rw [hst.rom_eq, hst.key_eq, hctr] at hread habs
  refine ⟨congrArg₂ List.cons hout hread, ?_⟩
  rw [ctrApply_cons, dir.ciphertext_cons]
  exact hst.cons habs

/-- The phase stays OPEN up to the last slice, which alone may be partial (R49). -/
theorem Sliced.runsCounterMode (dir : GcmDirection) {slices : List (List Byte)} (hs : Sliced slices) {s : State}
    (hg : s.gphase = .opened) : RunsCounterMode dir s slices := by
  induction hs generalizing s with
  | nil => exact .nil dir (.inl hg)
  | last hne hlt => exact .cons dir hne hlt.le hg (.nil dir (GcmAbsorbed.issue_gcmData dir hne hlt.le hg).gphase)
  | @cons slice _ hlen _ ih =>
    have hne : slice ≠ [] := List.ne_nil_of_length_eq_add_one hlen
    refine .cons dir hne hlen.le hg (ih ?_)
    have hfull : ¬ count (sliceCount slice) < 16 := by rw [count, sliceCount_toNat hlen.le]; omega
    rw [issue_gcmData dir hne hlen.le hg]
    exact (if_neg hfull).trans hg

/-- GCM_TAG after GCM_INIT and the ciphertext slices `cs` gives the tag of R195. -/
theorem issue_gcmTag_of_absorbed {s t : State} {iv : Block} {cs : List (List Byte)} (hcs : Sliced cs)
    (ht : GcmAbsorbed (issue iv .gcmInit s) cs t) :
    let u := issue 0 .gcmTag t
    u.dout = gcmTagOf s.rom.ct s.key iv cs.flatten ∧ u.tag = gcmTagOf s.rom.ct s.key iv cs.flatten ∧ u.gphase = .done
      ∧ u.errcode = .ok := by
  intro u
  have hlen : t.len = BitVec.ofNat 64 cs.flatten.length := ht.len_eq.trans (BitVec.zero_add _)
  have htag : encrypt t.rom.ct t.key t.j0 ^^^ ghash t.acc t.h (lengthsBlock t.len) =
      gcmTagOf s.rom.ct s.key iv cs.flatten := by
    rw [gcmTagOf, hcs.blocksOf_flatten, ht.rom_eq, ht.key_eq, ht.j0_eq, ht.acc_eq, ht.h_eq, hlen]
    rfl
  have hu : u = _ := issue_of_exec (exec_gcmTag (s := { t with din0 := 0 }) ht.gphase)
  rw [hu]
  exact ⟨htag, htag, rfl, rfl⟩

section Crypt

variable (ct : CipherTables) (k : Schedule) (iv : Block) (p : List Byte)

theorem blocksOf_gcmCrypt :
    blocksOf (gcmCrypt ct k iv p) = ctrApply ct k (incLow32 (j0Of (gcmH ct k) iv)) (blocksOf p) :=
  ((sliced_blocksOf p).ctrApply _ _ _).blocksOf_flatten

theorem gcmCrypt_length : (gcmCrypt ct k iv p).length = p.length := by
  rw [gcmCrypt, length_flatten_ctrApply _ _ _ (sliced_blocksOf p).length_le, flatten_blocksOf]

theorem gcmCrypt_gcmCrypt : gcmCrypt ct k iv (gcmCrypt ct k iv p) = p := by
  rw [gcmCrypt, blocksOf_gcmCrypt, ctrApply_ctrApply _ _ _ (sliced_blocksOf p).length_le, flatten_blocksOf]

/-- What GcmDecrypt answers on an IV, a ciphertext and a stored tag (R197). -/
theorem gcmDecrypt_file (c : List Byte) (tag : Block) :
    gcmDecrypt ct k (bytes128 iv ++ c ++ bytes128 tag) =
      .ok (gcmCrypt ct k iv c) (decide (tag = gcmTagOf ct k iv c)) := by
  have hlen : (bytes128 iv ++ c ++ bytes128 tag).length = 32 + c.length := by
    rw [List.length_append, List.length_append, bytes128_length, bytes128_length]
    omega
  have hiv : (bytes128 iv ++ c ++ bytes128 tag).take 16 = bytes128 iv := by
    rw [List.append_assoc, List.take_left' (bytes128_length iv)]
  have hc : ((bytes128 iv ++ c ++ bytes128 tag).drop 16).take (32 + c.length - 32) = c := by
    rw [List.append_assoc, List.drop_left' (bytes128_length iv), Nat.add_sub_cancel_left, List.take_left]
  have htag : (bytes128 iv ++ c ++ bytes128 tag).drop (32 + c.length - 16) = bytes128 tag := by
    refine List.drop_left' ?_
    rw [List.length_append, bytes128_length]
    omega
  rw [gcmDecrypt, hlen, if_neg (by omega)]
  simp only [hiv, hc, htag, be128_bytes128, ctEqual_eq_decide]

end Crypt

/-- Settles O48: GHASH absorbs the output of the data commands. -/
theorem gcmCommandsEncryptTheMessage : Obligations.GcmCommandsEncryptTheMessage := by
  intro s iv p r s2 c
  have hs := sliced_blocksOf p
  obtain ⟨hread, habs⟩ := hs.runsCounterMode .enc (s := issue iv .gcmInit s) rfl
  have hc : c = gcmCrypt s.rom.ct s.key iv p := congrArg List.flatten hread
  obtain ⟨hdout, _, _, hok⟩ := issue_gcmTag_of_absorbed (hs.ctrApply _ _ _) habs
  refine ⟨hc, ?_, hok, ?_⟩
  · rw [hc]
    exact hdout
  · have hlen : r.1.len = BitVec.ofNat 64 (gcmCrypt s.rom.ct s.key iv p).length :=
      habs.len_eq.trans (BitVec.zero_add _)
    rw [hlen, gcmCrypt_length]

/-- Settles O49: GHASH absorbs the input of the data commands, and GCM_VERIFY compares with the TAG of
GCM_TAG. -/
theorem gcmCommandsDecryptTheMessage : Obligations.GcmCommandsDecryptTheMessage := by
  intro s iv tag c r s3 p
  have hs := sliced_blocksOf c
  obtain ⟨hread, habs⟩ := hs.runsCounterMode .dec (s := issue iv .gcmInit s) rfl
  obtain ⟨_, htag, hdone, _⟩ := issue_gcmTag_of_absorbed hs habs
  have hs3 : s3 = _ := issue_of_exec (exec_gcmVerify hdone)
  refine ⟨congrArg List.flatten hread, by rw [hs3]; rfl, ?_, by rw [hs3]; rfl⟩
  rw [flatten_blocksOf] at htag
  rw [hs3, ← htag]
  rfl

/-- Settles O50: the keystream cancels, and the stored tag is the one computed again from the same ciphertext. -/
theorem gcmRoundTrips : Obligations.GcmRoundTrips := by
  intro ct k iv p
  refine ⟨?_, gcmCrypt_length ct k iv p⟩
  rw [gcmEncrypt, gcmDecrypt_file, gcmCrypt_gcmCrypt, decide_eq_true rfl]

end Sys2Proof.Machine
end

section
/-! The control commands NOP and CLEAR (45_control.md): neither has a guard, so each has one completion. -/

namespace Sys2Proof.Machine

theorem exec_nop (s : State) : exec .nop s = .next s.complete := rfl

theorem exec_clear (s : State) : exec .clear s = .next s.clearAll := rfl

/-- Settles O14: NOP is completion alone, and completion writes ERRCODE only. -/
theorem nopCompletes : Obligations.NopCompletes := by
  intro s
  rw [exec_nop, State.complete]

/-- Settles O15: CLEAR is the reset state over the machine's own ROM with CMD and the HOST's side put back. -/
theorem clearErasesAllButCmd : Obligations.ClearErasesAllButCmd := by
  intro s
  rw [exec_clear, State.clearAll, State.eraseCore, State.resetWith, HashState.fresh, Pending.empty]

end Sys2Proof.Machine
end

section
/-! Error completion (R231): each command that checks its phase (R234, R236), its size (R237) or its padding (R235), and
the CORE's step as a whole. -/

namespace Sys2Proof.Machine

section Phases

variable {s : State} {n : BitVec 5}

theorem exec_kshAbsorb_of_not_absorbing (hn : n.toNat ≤ 16) (hp : s.hphase ≠ .absorbing) :
    exec (.kshAbsorb n) s = .next (s.raiseError .hashSeq) := by
  have hlegal : ¬ (Instr.kshAbsorb n).legal = false := by simp [Instr.legal, hn]
  exact (if_neg hlegal).trans (if_pos hp)

theorem exec_kshFinal_of_not_absorbing (hp : s.hphase ≠ .absorbing) :
    exec .kshFinal s = .next (s.raiseError .hashSeq) :=
  if_pos hp

theorem exec_kshLoadkey_of_not_final (hp : s.hphase ≠ .final) :
    exec .kshLoadkey s = .next (s.raiseError .hashSeq) :=
  if_pos hp

theorem exec_gcmData_of_not_opened (dir : GcmDirection) (hlow : 1 ≤ n.toNat) (hhigh : n.toNat ≤ 16)
    (hg : s.gphase ≠ .opened) : exec (dir.command n) s = .next (s.raiseError .gcmSeq) := by
  have hlegal : (decide (1 ≤ n.toNat) && decide (n.toNat ≤ 16)) ≠ false := by simp [hlow, hhigh]
  cases dir with
  | enc => exact (if_neg hlegal).trans (if_pos hg)
  | dec => exact (if_neg hlegal).trans (if_pos hg)

theorem exec_gcmTag_of_idle_or_done (hg : s.gphase = .idle ∨ s.gphase = .done) :
    exec .gcmTag s = .next (s.raiseError .gcmSeq) := by
  have hphase : s.gphase ≠ .opened ∧ s.gphase ≠ .closed := by
    obtain hg | hg := hg <;> simp [hg]
  exact if_pos hphase

theorem exec_gcmVerify_of_not_done (hg : s.gphase ≠ .done) : exec .gcmVerify s = .next (s.raiseError .gcmSeq) :=
  if_pos hg

end Phases

/-- Settles O20: each hash command takes the error branch of its phase guard, and KSH_INIT has no guard. -/
theorem hashPhaseErrors : Obligations.HashPhaseErrors := fun _ =>
  ⟨fun hp => ⟨fun _ hn => exec_kshAbsorb_of_not_absorbing hn hp, exec_kshFinal_of_not_absorbing hp⟩,
    exec_kshLoadkey_of_not_final, _, rfl, rfl⟩

/-- Settles O46: each GCM command takes the error branch of its phase guard, and GCM_INIT has no guard. -/
theorem gcmPhaseErrors : Obligations.GcmPhaseErrors := fun _ =>
  ⟨fun hg _ hlow hhigh =>
      ⟨exec_gcmData_of_not_opened .enc hlow hhigh hg, exec_gcmData_of_not_opened .dec hlow hhigh hg⟩,
    exec_gcmTag_of_idle_or_done, exec_gcmVerify_of_not_done, _, rfl, rfl⟩

/-! The size checks (R177, R205, R237) -/

section Sizes

variable {s : State}

/-- A difference of words that does not wrap is the difference of the numbers. -/
theorem setWidth_sub_eq_ofNat {size k : Word} (hk : k ≤ size) :
    (size - k).setWidth 128 = BitVec.ofNat 128 (size.toNat - k.toNat) := by
  rw [← BitVec.ofNat_toNat, BitVec.toNat_sub_of_le hk]

/-- The size check of FMT_CBC on words is the one R237 states on numbers: 48 has its own comparison, and the
remainder refuses 49 to 63. -/
theorem cbcSizeBad_iff (size : Word) :
    cbcSizeBad size = true ↔ size.toNat < 64 ∨ (size.toNat - 48) % 16 ≠ 0 := by
  have hlt : size < 48 ↔ size.toNat < 48 := BitVec.lt_def
  have heq : size = 48 ↔ size.toNat = 48 := BitVec.toNat_inj.symm
  by_cases hsmall : size.toNat < 48
  · simp only [cbcSizeBad, hlt, hsmall, decide_true, Bool.true_or, true_iff]
    omega
  · have hsub : (size - 48).toNat = size.toNat - 48 :=
      BitVec.toNat_sub_of_le (BitVec.le_def.2 (Nat.le_of_not_lt hsmall))
    have hmod : (size - 48) % 16 = 0 ↔ (size.toNat - 48) % 16 = 0 := by
      rw [← BitVec.toNat_inj, BitVec.toNat_umod, hsub]
      rfl
    simp only [cbcSizeBad, Bool.or_eq_true, decide_eq_true_eq, beq_iff_eq, bne_iff_ne, ne_eq, hlt, heq, hmod]
    omega

theorem exec_fmtCbc_of_bad (hbad : cbcSizeBad (lo64 s.din0) = true) :
    exec .fmtCbc s = .next (s.raiseError .formatSize) :=
  if_pos hbad

theorem exec_fmtCbc_of_not_bad (hgood : ¬ cbcSizeBad (lo64 s.din0) = true) :
    exec .fmtCbc s = .next (s.writeDout ((lo64 s.din0 - 48).setWidth 128) 16).complete :=
  if_neg hgood

theorem exec_fmtGcm_of_lt (hlt : lo64 s.din0 < 32) : exec .fmtGcm s = .next (s.raiseError .formatSize) :=
  if_pos hlt

theorem exec_fmtGcm_of_not_lt (hle : ¬ lo64 s.din0 < 32) :
    exec .fmtGcm s = .next (s.writeDout ((lo64 s.din0 - 32).setWidth 128) 16).complete :=
  if_neg hle

end Sizes

/-- Settles O36: on a size that passes its check the subtraction does not wrap. -/
theorem formatCommandsCheckTheSize : Obligations.FormatCommandsCheckTheSize := by
  intro s size
  have hcbc := cbcSizeBad_iff (lo64 s.din0)
  constructor
  · split
    · next hbad => exact exec_fmtCbc_of_bad (hcbc.2 hbad)
    · next hgood =>
      have hle : 48 ≤ lo64 s.din0 := BitVec.le_def.2 (show 48 ≤ size by omega)
      rw [exec_fmtCbc_of_not_bad (hgood ∘ hcbc.1), setWidth_sub_eq_ofNat hle]
      rfl
  · split
    · next hlt => exact exec_fmtGcm_of_lt (BitVec.lt_def.2 hlt)
    · next hle =>
      have hnlt : ¬ lo64 s.din0 < 32 := hle ∘ BitVec.lt_def.1
      rw [exec_fmtGcm_of_not_lt hnlt, setWidth_sub_eq_ofNat (BitVec.not_lt.1 hnlt)]
      rfl

/-- Settles O35: the condition is `padValid` of the recovered block, and the released bytes are a mask of it. -/
theorem cbcDecfChecksThePadding : Obligations.CbcDecfChecksThePadding := by
  intro s q p
  have hpad : padValid (decfBlock s) = true ↔ _ := padValid_iff q
  split
  · next hvalid =>
    exact ⟨maskN (16 - p) q, blockByte_maskN (16 - p) q, exec_cbcDecf_of_valid (hpad.2 hvalid)⟩
  · next hinvalid => exact exec_cbcDecf_of_not_valid (hinvalid ∘ hpad.1)

/-! Error completion as the frame of a step (R231) -/

/-- A command that ends with an error has raised it over the state it found; CBC_DECF alone clears DOUT before. -/
theorem CommandEffect.eq_raiseError {s t : State} {i : Instr} (e : CommandEffect s i t) (ht : t.errcode ≠ .ok) :
    t = s.raiseError t.errcode ∨ (i = .cbcDecf ∧ t = (s.writeDout 0 0).raiseError .badPadding) := by
  cases e with
  | error => exact .inl rfl
  | withheld => exact .inr ⟨rfl, rfl⟩
  | _ => exact absurd rfl ht

/-- Settles O51: the CORE's step is the error of its command, or ILLEGAL_CMD, and then PENDING <- (0, 0). -/
theorem errorCompletionChangesNothingElse : Obligations.ErrorCompletionChangesNothingElse := by
  intro s t hdue hs ht
  rw [step_of_coreDue hdue] at hs
  obtain ⟨i, u, hd, hu, rfl⟩ | ⟨_, _, rfl⟩ := coreStep_next hs
  · obtain hraise | ⟨rfl, hraise⟩ := (exec_effect hu).eq_raiseError ht
    · have hdone : u.clearPending = (s.raiseError u.errcode).clearPending := congrArg State.clearPending hraise
      exact .inl hdone
    · have hdone : u.clearPending = ((s.writeDout 0 0).raiseError .badPadding).clearPending :=
        congrArg State.clearPending hraise
      exact .inr ⟨hd, hdone⟩
  · exact .inl rfl

end Sys2Proof.Machine
end

section
/-! The handshake while a command is pending (R254, R255, R256): what a HOST access other than reset can still change,
that the CORE's step does not depend on it, and that every such access brings that step nearer. -/

namespace Sys2Proof.Machine

/-! What a HOST access reaches -/

/-- The second state differs from the first in OVERRUN, which it may only have set, and in the model's own `script`,
`received` and `delay` at most. -/
inductive Shielded (s : State) : State → Prop where
  | mk {overrun : Bool} {script : List HostOp} {received : List Word} {delay : Nat}
      (hover : s.overrun = true → overrun = true) :
      Shielded s { s with overrun := overrun, script := script, received := received, delay := delay }

section Access

variable {s u : State} {op : HostOp}

/-- While a command is pending a write can set OVERRUN and nothing else (R63, R255). -/
theorem hostWrite_of_pending (off : Nat) (v : Word) (hp : s.pending.valid = true) :
    hostWrite s off v = s.noteOverrun ∨ hostWrite s off v = s := by
  obtain ⟨_, _, hw⟩ | ⟨hg | hb, _⟩ := hostWrite_cases s off v
  · exact .inl hw
  · exact .inr (hostWrite_of_not_guarded v hg)
  · have hidle : s.pending.valid = false := hb
    simp [hp] at hidle

/-- A HOST operation other than reset, while a command is pending: it counts the delay down by one, and what it leaves
of the script is what was there, with or without its first operation. -/
theorem hostOp_of_pending (hp : s.pending.valid = true) (hop : op ≠ .reset) (hs : hostOp s op = .next u) :
    Shielded s u ∧ u.delay = s.delay - 1 ∧ (u.script = s.script ∨ u.script = s.script.tail) := by
  obtain ⟨off, rfl, _, _, rfl⟩ | ⟨off, v, rfl, _, _, rfl⟩ | ⟨rfl, _, rfl⟩ | ⟨rfl, _, rfl⟩ | ⟨rfl, _⟩ :=
    hostOp_next hs
  · exact ⟨.mk id, rfl, .inr rfl⟩
  · obtain hw | hw := hostWrite_of_pending (s := s.tick) off v hp
    · rw [hw]
      exact ⟨.mk fun _ => rfl, rfl, .inr rfl⟩
    · rw [hw]
      exact ⟨.mk id, rfl, .inr rfl⟩
  · exact ⟨.mk id, rfl, .inl rfl⟩
  · exact ⟨.mk id, rfl, .inr rfl⟩
  · exact absurd rfl hop

theorem Shielded.pending_eq (h : Shielded s u) : u.pending = s.pending := by
  obtain ⟨_⟩ := h
  rfl

theorem Shielded.eq_of_delay (h : Shielded s u) (hd : u.delay = s.delay) :
    u = { s with script := u.script, received := u.received, overrun := u.overrun } := by
  obtain ⟨_⟩ := h
  subst hd
  rfl

theorem Shielded.overrun_sticky (h : Shielded s u) (hs : s.overrun = true) : u.overrun = true := by
  obtain ⟨hover⟩ := h
  exact hover hs

end Access

/-! What the CORE's step makes of it -/

/-- Two next states, the second shielded from the first. -/
inductive ShieldedOutcome : Result → Result → Prop where
  | next {t u : State} (h : Shielded t u) : ShieldedOutcome (.next t) (.next u)

section Core

variable {s u : State}

/-- Two conditionals with one condition are related when their branches are. -/
theorem rel_ite {α : Type} {R : α → α → Prop} {c : Prop} {_ : Decidable c} {a b a' b' : α}
    (ha : R a a') (hb : R b b') : R (if c then a else b) (if c then a' else b') := by
  split
  · exact ha
  · exact hb

/-- No command reads what shielded states differ in: its guards fall the same way, and behind them it writes the same
values. CLEAR erases OVERRUN in both states. -/
theorem exec_shielded (i : Instr) (h : Shielded s u) : ShieldedOutcome (exec i s) (exec i u) := by
  obtain ⟨hover⟩ := h
  cases i with
  | clear => exact .next (.mk id)
  | kshAbsorb | gcmEnc | gcmDec =>
    exact rel_ite (.next (.mk hover)) (rel_ite (.next (.mk hover)) (.next (.mk hover)))
  | kshFinal | kshLoadkey | ghUpd | cbcEncf | fmtCbc | gcmTag | gcmVerify | fmtGcm =>
    exact rel_ite (.next (.mk hover)) (.next (.mk hover))
  | cbcDecf => exact .next (rel_ite (.mk hover) (.mk hover))
  | _ => exact .next (.mk hover)

theorem raiseError_shielded (code : ErrCode) (h : Shielded s u) : Shielded (s.raiseError code) (u.raiseError code) := by
  obtain ⟨hover⟩ := h
  exact .mk hover

/-- The end of a CORE step closes both latencies, so `delay` no longer differs (R254). -/
theorem finishCommand_shielded {r r' : Result} (h : ShieldedOutcome r r') :
    ∃ t t', finishCommand r = .next t ∧ finishCommand r' = .next t' ∧ Shielded t t' ∧ t'.delay = t.delay := by
  obtain ⟨⟨hover⟩⟩ := h
  exact ⟨_, _, rfl, rfl, .mk hover, rfl⟩

/-- Shielded states have one pending word, so their CORE steps perform one command. -/
theorem coreStep_shielded (h : Shielded s u) :
    ∃ t t', coreStep s = .next t ∧ coreStep u = .next t' ∧ Shielded t t' ∧ t'.delay = t.delay := by
  rw [coreStep, coreStep, h.pending_eq]
  cases decode s.pending.word with
  | cmd i => exact finishCommand_shielded (exec_shielded i h)
  | illegal => exact finishCommand_shielded (.next (raiseError_shielded .illegalCmd h))

end Core

/-- Settles O56: the access leads to a shielded state, and the CORE's step keeps the two shielded. -/
theorem pendingCommandIsShieldedFromTheHost : Obligations.PendingCommandIsShieldedFromTheHost := by
  intro s u op hp hop hs
  obtain ⟨hshield, _⟩ := hostOp_of_pending hp hop hs
  obtain ⟨t, t', ht, ht', hafter, hdelay⟩ := coreStep_shielded hshield
  exact ⟨t, t', ht, ht', hafter.eq_of_delay hdelay, hafter.overrun_sticky⟩

/-! BUSY clears (R254, R265) -/

section Latency

variable {s t : State} {n : Nat}

/-- At most n steps answer a state with no command pending. -/
def State.ClearsWithin (s : State) (n : Nat) : Prop :=
  ∃ k t, k ≤ n ∧ runSteps k s = .next t ∧ t.pending.valid = false

theorem State.clearsWithin_of_idle (n : Nat) (hp : s.pending.valid = false) : s.ClearsWithin n :=
  ⟨0, s, n.zero_le, rfl, hp⟩

theorem State.ClearsWithin.of_step (hs : step s = .next t) (ht : t.ClearsWithin n) : s.ClearsWithin (n + 1) := by
  obtain ⟨k, u, hk, hrun, hp⟩ := ht
  refine ⟨k + 1, u, Nat.succ_le_succ hk, ?_, hp⟩
  rw [runSteps, hs]
  exact hrun

/-- Every access of a defined script is a defined one (R64). -/
theorem scriptDefined_iff : s.scriptDefined = true ↔ ∀ op ∈ s.script, ¬ op.Undefined := by
  rw [State.scriptDefined, List.all_eq_true]
  refine forall₂_congr fun op _ => ?_
  cases op with
  | rd width off => simp [HostOp.Undefined, accessProblem_eq_none]
  | wr width off v => simp [HostOp.Undefined, accessProblem_eq_none]
  | wait => simp [HostOp.Undefined]
  | reset => simp [HostOp.Undefined]

theorem coreStep_clears (hs : coreStep s = .next t) : t.pending.valid = false := by
  obtain ⟨_, _, _, rfl, _⟩ := coreStep_effect hs
  rfl

/-- A step with a command pending ends it or is a HOST access that uses up one of the delay: the CORE's step and the
reset event end it. -/
theorem step_of_pending (hp : s.pending.valid = true) (hd : s.scriptDefined = true) :
    ∃ t, step s = .next t ∧ (t.pending.valid = false ∨
      (t.pending.valid = true ∧ t.scriptDefined = true ∧ s.delay = t.delay + 1)) := by
  by_cases hcore : s.coreDue
  · obtain ⟨t, ht⟩ := coreStep_completes s
    exact ⟨t, (step_of_coreDue hcore).trans ht, .inl (coreStep_clears ht)⟩
  · obtain ⟨hdelay, hnonempty⟩ : s.delay ≠ 0 ∧ s.script ≠ [] := by
      simpa [State.coreDue, hp] using hcore
    obtain ⟨op, rest, hops⟩ := List.exists_cons_of_ne_nil hnonempty
    rw [scriptDefined_iff] at hd
    obtain ⟨t, ht⟩ := hostOp_of_defined s (hd op (by simp [hops]))
    refine ⟨t, (step_of_hostDue ⟨hcore, hops⟩).trans ht, ?_⟩
    by_cases hop : op = .reset
    · subst hop
      cases ht
      exact .inl rfl
    · obtain ⟨hshield, hleft, hscript⟩ := hostOp_of_pending hp hop ht
      have hmem : ∀ op ∈ t.script, op ∈ s.script := by
        obtain h | h := hscript
        · simp [h]
        · simpa [h] using fun _ => List.mem_of_mem_tail
      exact .inr ⟨hshield.pending_eq ▸ hp, scriptDefined_iff.2 fun op h => hd op (hmem op h), by omega⟩

/-- Induction on the delay: each access counts it down, and at 0 the CORE moves. -/
theorem clearsWithin_delay (hp : s.pending.valid = true) (hd : s.scriptDefined = true) :
    s.ClearsWithin (s.delay + 1) := by
  induction hn : s.delay generalizing s with
  | zero =>
    obtain ⟨t, hs, hclear | ⟨_, _, hdelay⟩⟩ := step_of_pending hp hd
    · exact .of_step hs (t.clearsWithin_of_idle _ hclear)
    · omega
  | succ n ih =>
    obtain ⟨t, hs, hclear | ⟨hpt, hdt, hdelay⟩⟩ := step_of_pending hp hd
    · exact .of_step hs (State.clearsWithin_of_idle _ hclear)
    · exact .of_step hs (ih hpt hdt (by omega))

end Latency

/-- Settles O8, by induction on the delay. -/
theorem busyClearsWithinTheLatency : Obligations.BusyClearsWithinTheLatency := fun _ => clearsWithin_delay

end Sys2Proof.Machine
end
